-- ==== Sys2Proof/Word.lean ====
section
/-! DEFINITION. The machine's word types (spec 00_scope.md R6, R8).

Bit 0 is the least significant bit of every value (R8). -/

namespace Sys2Proof

/-- A 16-bit machine word: `PC`, `IR`, `MAR`, `MDR`, the general registers and the bus (R6, parameter `W`). -/
abbrev Word := BitVec 16

/-- One byte of memory (10_state.md R32). -/
abbrev Byte := BitVec 8

/-- A control word, one row of the control store: 35 bits (30_encoding.md R70). -/
abbrev ControlWord := BitVec 35

/-- A micro-state number, the index 0 to 63 of a control-store row (10_state.md R30). -/
abbrev MicroState := BitVec 6

/-- The number of one of the eight general registers (10_state.md R28). -/
abbrev RegIdx := BitVec 3

end Sys2Proof
end

