-- ==== Sys2Proof/Config.lean ====
section
/-! DEFINITION. What an implementation fixes: the parameters of 00_scope.md R6 as `State.reset` takes them.

No rule of the spec gives an instruction an undefined result, so there is no opaque free value here
(assumption log 24). `MEM_CYCLES`, `INITIAL_STATE`, the control store and the image are arguments of the
reset and load functions; the constants below are only what `State.reset` passes for them. -/

namespace Sys2Proof.Config

/-- `MEM_CYCLES` of `State.reset`: the spec's reference value (R6). PRESUMED, unsafe, log 7. -/
def resetMemCycles : Nat := 5

/-- `INITIAL_STATE` of `State.reset`: the spec's reference value (R6, R241). PRESUMED, unsafe, log 6. -/
def resetInitialState : MicroState := 18#6

/-- The load base `State.reset` starts from: an input of the machine (R242). DESIGN CHOICE, unsafe, log 5. -/
def resetLoadBase : Word := 0x3000#16

/-- What a byte of memory that nothing has written reads as: 0 (70_reset_and_hazards.md R240, R245). -/
def unlistedByte : Byte := 0#8

/-- The number of byte addresses: 2^16 (20_memory.md R50). -/
def addressCount : Nat := 65536

end Sys2Proof.Config
end

