-- ==== Sys2Proof/Syntax.lean ====
section
/-! DEFINITION. The instructions: one constructor for each row of spec/opcode_table.json, in the table's order.

A row is a micro-operation: what one field (or group of fields) of the 35-bit control word, or of `cur.IR`,
asks one unit to do in one clock cycle. One control word asks for several of them at once
(assumption log 1). The operands are the bits that the row leaves open and its rule reads. -/

namespace Sys2Proof

/-- The micro-operations of the block: 46 rows of the control word (format CW35) and 8 of the instruction
register (format IR16). -/
inductive Instr where
  /-- SEQ_DISPATCH, R101: the next state is `IR[15:12]`. -/
  | seqDispatch
  /-- SEQ_J, R106: the next state is `J`. -/
  | seqJ (j : MicroState)
  /-- SEQ_J_OR_READY, R103: the next state is `J` with bit 1 forced by `READY`. -/
  | seqJOrReady (j : MicroState)
  /-- SEQ_J_OR_BEN, R104: the next state is `J` with bit 2 forced by `BEN`. -/
  | seqJOrBen (j : MicroState)
  /-- SEQ_J_OR_IR11, R105: the next state is `J` with bit 0 forced by `IR[11]`. -/
  | seqJOrIr11 (j : MicroState)
  /-- LD_MAR, R180. -/
  | ldMar
  /-- LD_MDR_MEM, R183. -/
  | ldMdrMem
  /-- LD_MDR_BUS_WORD, R185. -/
  | ldMdrBusWord
  /-- LD_MDR_BUS_BYTE, R184 (odd address) and R185 (even address). -/
  | ldMdrBusByte
  /-- LD_IR, R181. -/
  | ldIr
  /-- LD_BEN, R186. -/
  | ldBen
  /-- LD_REG, R189. -/
  | ldReg
  /-- LD_CC, R195. -/
  | ldCc
  /-- LD_PC_PLUS2, R191. -/
  | ldPcPlus2
  /-- LD_PC_BUS, R192. -/
  | ldPcBus
  /-- LD_PC_ADDR_SUM, R193. -/
  | ldPcAddrSum
  /-- LD_PC_RESERVED, R194: the ill-formed encoding of R77. -/
  | ldPcReserved
  /-- GATE_MARMUX, R170: first in the arbiter's priority. -/
  | gateMarmux
  /-- GATE_PC, R170: second. -/
  | gatePc
  /-- GATE_ALU, R170: third. -/
  | gateAlu
  /-- GATE_SHF, R170: fourth. -/
  | gateShf
  /-- GATE_MDR, R170: fifth. -/
  | gateMdr
  /-- BUS_NONE, R171: no gate. -/
  | busNone
  /-- DRMUX_IR11_9, R160. -/
  | drmuxIr11To9
  /-- DRMUX_R7, R160. -/
  | drmuxR7
  /-- SR1MUX_IR11_9, R109. -/
  | sr1muxIr11To9
  /-- SR1MUX_IR8_6, R109. -/
  | sr1muxIr8To6
  /-- ADDR1MUX_PC, R142. -/
  | addr1muxPc
  /-- ADDR1MUX_SR1, R142. -/
  | addr1muxSr1
  /-- ADDR2MUX_ZERO, R143. -/
  | addr2muxZero
  /-- ADDR2MUX_OFF6, R143. -/
  | addr2muxOff6
  /-- ADDR2MUX_OFF9, R143. -/
  | addr2muxOff9
  /-- ADDR2MUX_OFF11, R143. -/
  | addr2muxOff11
  /-- LSHF1, R144. -/
  | lshf1
  /-- MARMUX_TRAPVECT, R146. -/
  | marmuxTrapvect
  /-- MARMUX_ADDR_SUM, R146. -/
  | marmuxAddrSum
  /-- ALU_ADD, R151. -/
  | aluAdd
  /-- ALU_AND, R152. -/
  | aluAnd
  /-- ALU_XOR, R153. -/
  | aluXor
  /-- ALU_PASSA, R154. -/
  | aluPassa
  /-- MDR_CAND_WORD, R140. -/
  | mdrCandWord
  /-- MDR_CAND_BYTE, R141. -/
  | mdrCandByte
  /-- MEM_IDLE, R120. -/
  | memIdle
  /-- MEM_READ, R124. -/
  | memRead
  /-- MEM_WRITE_WORD, R125. -/
  | memWriteWord
  /-- MEM_WRITE_BYTE, R126. -/
  | memWriteByte
  /-- IR_DISPATCH, R101: the opcode `IR[15:12]`, used when `IRD = 1`. -/
  | irDispatch (opcode : BitVec 4)
  /-- IR_COND_BIT11, R105: `IR[11]`, injected when `COND = 11`. -/
  | irCondBit11 (ir11 : Bool)
  /-- IR_BEN_NZP, R186: `IR[11]`, `IR[10]`, `IR[9]`, the terms of `BEN`. -/
  | irBenNzp (n z p : Bool)
  /-- IR_SR2_REG, R150: `IR[5] = 0`, a register. -/
  | irSr2Reg (sr2 : RegIdx)
  /-- IR_SR2_IMM5, R150: `IR[5] = 1`, an immediate. -/
  | irSr2Imm5 (imm5 : BitVec 5)
  /-- IR_SHF_LSHF, R156: `IR[4] = 0`. -/
  | irShfLshf (amount4 : BitVec 4)
  /-- IR_SHF_RSHFL, R157: `IR[5:4] = 01`. -/
  | irShfRshfl (amount4 : BitVec 4)
  /-- IR_SHF_RSHFA, R158: `IR[5:4] = 11`. -/
  | irShfRshfa (amount4 : BitVec 4)
  deriving DecidableEq, Repr

end Sys2Proof
end

