-- ==== Sys2Proof/Machine/State.lean ====
section
/-! DEFINITION. The machine's state (spec 10_state.md), the reasons a step can stop, and reset.

State is plain data. It holds the two latch sets, the transient nets of one cycle, the control store, the memory,
the counters, the last bus value, the halt flag and the latency parameter. -/

namespace Sys2Proof.Machine

/-- The latch set, the "latch snapshot" (R20). It exists twice: `cur` and `nxt`. -/
structure Latches where
  /-- `PC` (R21). -/
  pc : Word
  /-- `IR` (R22). -/
  ir : Word
  /-- `MAR` (R23). -/
  mar : Word
  /-- `MDR` (R24). -/
  mdr : Word
  /-- `N` (R25). -/
  n : Bool
  /-- `Z` (R25). -/
  z : Bool
  /-- `P` (R25). -/
  p : Bool
  /-- `BEN` (R26). -/
  ben : Bool
  /-- `READY` (R27). -/
  ready : Bool
  /-- `REG[0..7]` (R28). -/
  regs : Vector Word 8
  /-- `MICROINSTRUCTION` (R29). -/
  microinstruction : ControlWord
  /-- `STATE_NUMBER` (R30). -/
  stateNumber : MicroState
  deriving DecidableEq, Repr

/-- The transient nets of one cycle (R39). `ADDR_SUM` is not stored: `Nets.addrSum` computes it (log 11). -/
structure Nets where
  /-- `NEXT_STATE`. -/
  nextState : MicroState
  /-- `SR1_IDX`. -/
  sr1Idx : RegIdx
  /-- `SR1_VAL`. -/
  sr1Val : Word
  /-- `MEM_DONE`. -/
  memDone : Bool
  /-- `MEM_RDATA`: no value in a cycle without a read transfer (R124, log 10). -/
  memRdata : Option Word
  /-- `MDR_CAND`. -/
  mdrCand : Word
  /-- `ADDR1_OUT`. -/
  addr1Out : Word
  /-- `ADDR2_OUT`. -/
  addr2Out : Word
  /-- `MARMUX_OUT`. -/
  marmuxOut : Word
  /-- `SR2_OUT`. -/
  sr2Out : Word
  /-- `ALU_OUT`. -/
  aluOut : Word
  /-- `SHF_OUT`. -/
  shfOut : Word
  /-- `DR_IDX`. -/
  drIdx : RegIdx
  /-- `BUS`. -/
  bus : Word
  deriving DecidableEq, Repr

/-- The nets between cycles, where they have no meaning: zeros, and no read result. DESIGN CHOICE, log 9. -/
def Nets.idle : Nets :=
  { nextState := 0#6, sr1Idx := 0#3, sr1Val := 0#16, memDone := false, memRdata := none, mdrCand := 0#16,
    addr1Out := 0#16, addr2Out := 0#16, marmuxOut := 0#16, sr2Out := 0#16, aluOut := 0#16, shfOut := 0#16,
    drIdx := 0#3, bus := 0#16 }

/-- Main memory: the bytes that differ from `Config.unlistedByte`, by rising address (R32, R50; log 16). Byte
address `2k` is `MEM[k].lo` and `2k+1` is `MEM[k].hi` (R51). -/
abbrev Memory := List Host.Cell

/-- The canonical form above a bound: addresses rise strictly from `lo`, stay inside the address space, and no
entry equals what an unlisted address reads as. -/
def Memory.wfFrom (lo : Nat) (m : Memory) : Bool :=
  match m with
  | [] => true
  | (a, v) :: rest =>
    decide (lo ≤ a) && decide (a < Config.addressCount) && decide (v ≠ Config.unlistedByte) &&
      Memory.wfFrom (a + 1) rest

/-- The canonical form of memory. -/
def Memory.wf (m : Memory) : Bool := Memory.wfFrom 0 m

/-- The state of the machine. -/
structure State where
  /-- The current latch set, read during a cycle (R20). -/
  cur : Latches
  /-- The next latch set, written during a cycle (R20). -/
  nxt : Latches
  /-- The nets of the running cycle (R39). -/
  nets : Nets
  /-- `CONTROL_STORE`: 64 rows, read-only after the load (R31). -/
  controlStore : Vector ControlWord 64
  /-- `MEM` (R32). -/
  mem : Memory
  /-- `memCounter` (R33). -/
  memCounter : Nat
  /-- `cycleCount` (R34). -/
  cycleCount : Nat
  /-- `lastBus` (R35). -/
  lastBus : Word
  /-- `halted` (R36). -/
  halted : Bool
  /-- `MEM_CYCLES` (R6): the latency parameter, written by no rule (log 7). -/
  memCycles : Nat
  deriving DecidableEq, Repr

/-- Why a run ends in the fault outcome: the closed list of R214, each with the value it records. A fault is safe:
a faulted run satisfies no claim (D21). -/
inductive Fault where
  /-- `IllFormedControlWord` (R194): raised by LD_PC_RESERVED with the control word, its state number, and the
  state the run ends in (R213: no swap, writes already made to `MEM` and `memCounter` stand). Safe. -/
  | illFormedControlWord (controlWord : ControlWord) (stateNumber : MicroState) (left : State)
  /-- `StateOutOfRange` (R111): no step raises it, since a state number has 6 bits (R43). Safe. -/
  | stateOutOfRange (value : Nat)
  /-- `AddressOutOfRange` (R59): no step raises it, since `MAR` has 16 bits and `MEM` 2^16 bytes. Safe. -/
  | addressOutOfRange (address : Nat)
  deriving DecidableEq, Repr

/-- Why a step is not taken at all. -/
inductive Refusal where
  /-- An instruction without a meaning in this model: no arm of `exec` answers it. Safe. -/
  | notModelled (mnemonic : String)
  /-- The host calls a machine that has already halted (R227, R228, R248): "refuse to execute". Safe. -/
  | alreadyHalted
  deriving DecidableEq, Repr

/-- The state after the load (70_reset_and_hazards.md R240 steps 2, 4 and 5, values of 10_state.md R44), from a
latency, a first micro-state, a control store, a load base and the memory with the image in it. -/
def State.afterLoad (memCycles : Nat) (initialState : MicroState) (controlStore : Vector ControlWord 64)
    (base : Word) (mem : Memory) : State :=
  let latches : Latches :=
    { pc := base &&& 0xFFFE#16, ir := 0#16, mar := 0#16, mdr := 0#16, n := false, z := true, p := false,
      ben := false, ready := false, regs := Vector.replicate 8 0#16,
      microinstruction := controlStore[initialState.toNat], stateNumber := initialState }
  { cur := latches, nxt := latches, nets := Nets.idle, controlStore := controlStore, mem := mem, memCounter := 0,
    cycleCount := 0, lastBus := 0#16, halted := false, memCycles := memCycles }

/-- The machine right after reset with nothing loaded: 64 all-zero control-store rows and no image (log 4), the
load base of log 5 and the reference parameters of logs 6 and 7. -/
def State.reset : State :=
  State.afterLoad Config.resetMemCycles Config.resetInitialState (Vector.replicate 64 0#35)
    Config.resetLoadBase []

end Sys2Proof.Machine
end

