-- ==== Sys2Proof/Machine/Flags.lean ====
section
/-! DEFINITION. The condition flags and branch enable (44_latch_commit.md R186, R195). -/

namespace Sys2Proof.Machine

/-- `Z` of a bus value (R195): the value is 0. -/
def flagZ (bus : Word) : Bool := bus == 0#16

/-- `N` of a bus value (R195): the value is not 0 and its bit 15 is set. -/
def flagN (bus : Word) : Bool := !(flagZ bus) && bus.getLsbD 15

/-- `P` of a bus value (R195): neither zero nor negative. -/
def flagP (bus : Word) : Bool := !(flagZ bus) && !(bus.getLsbD 15)

/-- `BEN` from the three `IR` bits and the current flags (R186). -/
def branchEnable (ir11 ir10 ir9 n z p : Bool) : Bool := (ir11 && n) || (ir10 && z) || (ir9 && p)

end Sys2Proof.Machine
end

