-- ==== Sys2Proof/WellFormed.lean ====
section
/-! DEFINITION. Which instructions are well-formed.

Every operand is held in a type of exactly its field's width, so no operand can be out of range. The one
ill-formed row is the reserved `PCMUX = 11` under `LD_PC = 1` (30_encoding.md R77). -/

namespace Sys2Proof

/-- R77: the only micro-operation that makes its control word ill-formed is LD_PC_RESERVED. -/
def Instr.wellFormed (i : Instr) : Bool :=
  match i with
  | .ldPcReserved => false
  | _ => true

end Sys2Proof
end

