-- ==== Sys2Proof/Decode.lean ====
section
/-! DEFINITION. The fields of a control word and of `IR` (30_encoding.md R70, R74), the decoder from a control
word and an instruction register to micro-operations, and the encoder (the table's match and mask).

Decoding is total: every control word together with every `IR` value means a list of micro-operations, in the
order in which the units act (44_latch_commit.md R199). No bit pattern is refused here (R76, R78): the one
ill-formed pattern decodes to `ldPcReserved`, whose meaning raises the fault. Malformed TEXT is rejected by name
in Machine/Loader.lean. -/

namespace Sys2Proof

/-! ## Fields of the control word (R70) -/

/-- `IRD`, bit 34. -/
def cwIrd (cw : ControlWord) : Bool := cw.getLsbD 34
/-- `COND`, bits 33:32. -/
def cwCond (cw : ControlWord) : BitVec 2 := cw.extractLsb' 32 2
/-- `J`, bits 31:26. -/
def cwJ (cw : ControlWord) : MicroState := cw.extractLsb' 26 6
/-- `LD_MAR`, bit 25. -/
def cwLdMar (cw : ControlWord) : Bool := cw.getLsbD 25
/-- `LD_MDR`, bit 24. -/
def cwLdMdr (cw : ControlWord) : Bool := cw.getLsbD 24
/-- `LD_IR`, bit 23. -/
def cwLdIr (cw : ControlWord) : Bool := cw.getLsbD 23
/-- `LD_BEN`, bit 22. -/
def cwLdBen (cw : ControlWord) : Bool := cw.getLsbD 22
/-- `LD_REG`, bit 21. -/
def cwLdReg (cw : ControlWord) : Bool := cw.getLsbD 21
/-- `LD_CC`, bit 20. -/
def cwLdCc (cw : ControlWord) : Bool := cw.getLsbD 20
/-- `LD_PC`, bit 19. -/
def cwLdPc (cw : ControlWord) : Bool := cw.getLsbD 19
/-- `GATE_PC`, bit 18. -/
def cwGatePc (cw : ControlWord) : Bool := cw.getLsbD 18
/-- `GATE_MDR`, bit 17. -/
def cwGateMdr (cw : ControlWord) : Bool := cw.getLsbD 17
/-- `GATE_ALU`, bit 16. -/
def cwGateAlu (cw : ControlWord) : Bool := cw.getLsbD 16
/-- `GATE_MARMUX`, bit 15. -/
def cwGateMarmux (cw : ControlWord) : Bool := cw.getLsbD 15
/-- `GATE_SHF`, bit 14. -/
def cwGateShf (cw : ControlWord) : Bool := cw.getLsbD 14
/-- `PCMUX`, bits 13:12. -/
def cwPcmux (cw : ControlWord) : BitVec 2 := cw.extractLsb' 12 2
/-- `DRMUX`, bit 11. -/
def cwDrmux (cw : ControlWord) : Bool := cw.getLsbD 11
/-- `SR1MUX`, bit 10. -/
def cwSr1mux (cw : ControlWord) : Bool := cw.getLsbD 10
/-- `ADDR1MUX`, bit 9. -/
def cwAddr1mux (cw : ControlWord) : Bool := cw.getLsbD 9
/-- `ADDR2MUX`, bits 8:7. -/
def cwAddr2mux (cw : ControlWord) : BitVec 2 := cw.extractLsb' 7 2
/-- `MARMUX`, bit 6. -/
def cwMarmux (cw : ControlWord) : Bool := cw.getLsbD 6
/-- `ALUK`, bits 5:4. -/
def cwAluk (cw : ControlWord) : BitVec 2 := cw.extractLsb' 4 2
/-- `MIO_EN`, bit 3. -/
def cwMioEn (cw : ControlWord) : Bool := cw.getLsbD 3
/-- `R_W`, bit 2: 0 read, 1 write. -/
def cwRW (cw : ControlWord) : Bool := cw.getLsbD 2
/-- `DATA_SIZE`, bit 1: 0 byte, 1 word. -/
def cwDataSize (cw : ControlWord) : Bool := cw.getLsbD 1
/-- `LSHF1`, bit 0. -/
def cwLshf1 (cw : ControlWord) : Bool := cw.getLsbD 0

/-- R77: `LD_PC = 1` with `PCMUX = 11`. -/
def cwIllFormed (cw : ControlWord) : Bool := cwLdPc cw && (cwPcmux cw == 3#2)

/-! ## Fields of the instruction register (R74) -/

/-- The opcode, `IR[15:12]`. -/
def irOpcode (ir : Word) : BitVec 4 := ir.extractLsb' 12 4
/-- Register field A, `IR[11:9]`. -/
def irRegA (ir : Word) : RegIdx := ir.extractLsb' 9 3
/-- Register field B, `IR[8:6]`. -/
def irRegB (ir : Word) : RegIdx := ir.extractLsb' 6 3
/-- Register field C, `IR[2:0]`. -/
def irRegC (ir : Word) : RegIdx := ir.extractLsb' 0 3
/-- `IR[11]`: the `COND = 11` bit and the `N` term of `BEN`. -/
def irBit11 (ir : Word) : Bool := ir.getLsbD 11
/-- `IR[10]`: the `Z` term of `BEN`. -/
def irBit10 (ir : Word) : Bool := ir.getLsbD 10
/-- `IR[9]`: the `P` term of `BEN`. -/
def irBit9 (ir : Word) : Bool := ir.getLsbD 9
/-- `IR[5]`: the ALU's second-operand select and the arithmetic-shift select. -/
def irBit5 (ir : Word) : Bool := ir.getLsbD 5
/-- `IR[4]`: the left or right shift select. -/
def irBit4 (ir : Word) : Bool := ir.getLsbD 4
/-- imm5, `IR[4:0]`. -/
def irImm5 (ir : Word) : BitVec 5 := ir.extractLsb' 0 5
/-- offset6, `IR[5:0]`. -/
def irOff6 (ir : Word) : BitVec 6 := ir.extractLsb' 0 6
/-- offset9, `IR[8:0]`. -/
def irOff9 (ir : Word) : BitVec 9 := ir.extractLsb' 0 9
/-- offset11, `IR[10:0]`. -/
def irOff11 (ir : Word) : BitVec 11 := ir.extractLsb' 0 11
/-- The low byte, `IR[7:0]`. -/
def irLow8 (ir : Word) : BitVec 8 := ir.extractLsb' 0 8
/-- amount4, `IR[3:0]`. -/
def irAmount4 (ir : Word) : BitVec 4 := ir.extractLsb' 0 4

/-! ## One decoder for each independent field (R83) -/

/-- Next-address selection (R101 to R106, truth table R112). -/
def seqOf (cw : ControlWord) : Instr :=
  if cwIrd cw then .seqDispatch
  else if cwCond cw = 0#2 then .seqJ (cwJ cw)
  else if cwCond cw = 1#2 then .seqJOrReady (cwJ cw)
  else if cwCond cw = 2#2 then .seqJOrBen (cwJ cw)
  else .seqJOrIr11 (cwJ cw)

/-- First-source register select (R109). -/
def sr1Of (cw : ControlWord) : Instr := if cwSr1mux cw then .sr1muxIr8To6 else .sr1muxIr11To9

/-- Memory timing unit (R120, R122, R125, R126). -/
def memOf (cw : ControlWord) : Instr :=
  if cwMioEn cw then
    if cwRW cw then if cwDataSize cw then .memWriteWord else .memWriteByte
    else .memRead
  else .memIdle

/-- Memory-data candidate (R140, R141). -/
def mdrCandOf (cw : ControlWord) : Instr := if cwDataSize cw then .mdrCandWord else .mdrCandByte

/-- Address-adder first input (R142). -/
def addr1Of (cw : ControlWord) : Instr := if cwAddr1mux cw then .addr1muxSr1 else .addr1muxPc

/-- Address-adder second input (R143). -/
def addr2Of (cw : ControlWord) : Instr :=
  if cwAddr2mux cw = 0#2 then .addr2muxZero
  else if cwAddr2mux cw = 1#2 then .addr2muxOff6
  else if cwAddr2mux cw = 2#2 then .addr2muxOff9
  else .addr2muxOff11

/-- The optional shift of the second input (R144); no row when `LSHF1 = 0`. -/
def lshf1Of (cw : ControlWord) : Option Instr := if cwLshf1 cw then some .lshf1 else none

/-- MAR mux (R146). -/
def marmuxOf (cw : ControlWord) : Instr := if cwMarmux cw then .marmuxAddrSum else .marmuxTrapvect

/-- ALU operation (R151 to R154). -/
def aluOf (cw : ControlWord) : Instr :=
  if cwAluk cw = 0#2 then .aluAdd
  else if cwAluk cw = 1#2 then .aluAnd
  else if cwAluk cw = 2#2 then .aluXor
  else .aluPassa

/-- Destination register index (R160). -/
def drOf (cw : ControlWord) : Instr := if cwDrmux cw then .drmuxR7 else .drmuxIr11To9

/-- The arbiter's fixed priority (R170, R171). -/
def busOf (cw : ControlWord) : Instr :=
  if cwGateMarmux cw then .gateMarmux
  else if cwGatePc cw then .gatePc
  else if cwGateAlu cw then .gateAlu
  else if cwGateShf cw then .gateShf
  else if cwGateMdr cw then .gateMdr
  else .busNone

/-- `LD_MAR` (R180). -/
def ldMarOf (cw : ControlWord) : Option Instr := if cwLdMar cw then some .ldMar else none

/-- `LD_IR` (R181). -/
def ldIrOf (cw : ControlWord) : Option Instr := if cwLdIr cw then some .ldIr else none

/-- `LD_MDR` and its source select (R182 to R185). -/
def ldMdrOf (cw : ControlWord) : Option Instr :=
  if cwLdMdr cw then
    if cwMioEn cw then some .ldMdrMem
    else if cwDataSize cw then some .ldMdrBusWord else some .ldMdrBusByte
  else none

/-- `LD_BEN` (R186). -/
def ldBenOf (cw : ControlWord) : Option Instr := if cwLdBen cw then some .ldBen else none

/-- `LD_REG` (R189). -/
def ldRegOf (cw : ControlWord) : Option Instr := if cwLdReg cw then some .ldReg else none

/-- `LD_PC` and its source select (R190 to R194). -/
def ldPcOf (cw : ControlWord) : Option Instr :=
  if cwLdPc cw then
    if cwPcmux cw = 0#2 then some .ldPcPlus2
    else if cwPcmux cw = 1#2 then some .ldPcBus
    else if cwPcmux cw = 2#2 then some .ldPcAddrSum
    else some .ldPcReserved
  else none

/-- `LD_CC` (R195). -/
def ldCcOf (cw : ControlWord) : Option Instr := if cwLdCc cw then some .ldCc else none

/-- The dispatch index in `IR` (R74, R101). -/
def irDispatchOf (ir : Word) : Instr := .irDispatch (irOpcode ir)

/-- The condition bit in `IR` (R74, R105). -/
def irCondOf (ir : Word) : Instr := .irCondBit11 (irBit11 ir)

/-- The branch-enable terms in `IR` (R74, R186). -/
def irBenOf (ir : Word) : Instr := .irBenNzp (irBit11 ir) (irBit10 ir) (irBit9 ir)

/-- The ALU's second operand (R76, R150). -/
def irSr2Of (ir : Word) : Instr :=
  if irBit5 ir then .irSr2Imm5 (irImm5 ir) else .irSr2Reg (irRegC ir)

/-- The shift sub-function (R76, R156 to R158). -/
def irShfOf (ir : Word) : Instr :=
  if irBit4 ir then
    if irBit5 ir then .irShfRshfa (irAmount4 ir) else .irShfRshfl (irAmount4 ir)
  else .irShfLshf (irAmount4 ir)

/-! ## The micro-operations of one cycle, unit by unit (R199) -/

/-- Unit 1, the micro-sequencer. -/
def sequencerOps (cw : ControlWord) (ir : Word) : List Instr :=
  [seqOf cw, irDispatchOf ir, irCondOf ir, sr1Of cw]

/-- Unit 2, the memory timing unit. -/
def memoryOps (cw : ControlWord) : List Instr := [memOf cw]

/-- Unit 3, the bus-driver evaluator. -/
def evaluatorOps (cw : ControlWord) (ir : Word) : List Instr :=
  [mdrCandOf cw, addr1Of cw, addr2Of cw] ++ (lshf1Of cw).toList ++
    [marmuxOf cw, irSr2Of ir, aluOf cw, irShfOf ir, drOf cw]

/-- Unit 4, the bus arbiter. -/
def arbiterOps (cw : ControlWord) : List Instr := [busOf cw]

/-- Unit 5, the latch commit, in the order of R197. -/
def commitOps (cw : ControlWord) (ir : Word) : List Instr :=
  (ldMarOf cw).toList ++ (ldIrOf cw).toList ++ (ldMdrOf cw).toList ++ (ldBenOf cw).toList ++ [irBenOf ir] ++
    (ldRegOf cw).toList ++ (ldPcOf cw).toList ++ (ldCcOf cw).toList

/-- THE DECODER: the micro-operations that a control word and an instruction register ask for, in unit order. -/
def microOps (cw : ControlWord) (ir : Word) : List Instr :=
  sequencerOps cw ir ++ memoryOps cw ++ evaluatorOps cw ir ++ arbiterOps cw ++ commitOps cw ir

/-! ## The encoder, written from the table's `match` and `mask` columns -/

/-- The bits a row fixes: a mask and the value under it, in the control word or in `IR`. -/
inductive Pattern where
  /-- Format CW35. -/
  | cw (mask bits : ControlWord)
  /-- Format IR16. -/
  | ir (mask bits : Word)
  deriving DecidableEq, Repr

/-- A `J` operand in its place, bits 31:26. -/
def placeJ (j : MicroState) : ControlWord := j.zeroExtend 35 <<< 26

/-- The pattern of an instruction: the row's `mask` and `match` of spec/opcode_table.json, with the operand's own
bits added to both. -/
def pattern (i : Instr) : Pattern :=
  match i with
  | .seqDispatch => .cw 0x400000000#35 0x400000000#35
  | .seqJ j => .cw (0x700000000#35 ||| 0x0FC000000#35) (0x000000000#35 ||| placeJ j)
  | .seqJOrReady j => .cw (0x700000000#35 ||| 0x0FC000000#35) (0x100000000#35 ||| placeJ j)
  | .seqJOrBen j => .cw (0x700000000#35 ||| 0x0FC000000#35) (0x200000000#35 ||| placeJ j)
  | .seqJOrIr11 j => .cw (0x700000000#35 ||| 0x0FC000000#35) (0x300000000#35 ||| placeJ j)
  | .ldMar => .cw 0x002000000#35 0x002000000#35
  | .ldMdrMem => .cw 0x001000008#35 0x001000008#35
  | .ldMdrBusWord => .cw 0x00100000A#35 0x001000002#35
  | .ldMdrBusByte => .cw 0x00100000A#35 0x001000000#35
  | .ldIr => .cw 0x000800000#35 0x000800000#35
  | .ldBen => .cw 0x000400000#35 0x000400000#35
  | .ldReg => .cw 0x000200000#35 0x000200000#35
  | .ldCc => .cw 0x000100000#35 0x000100000#35
  | .ldPcPlus2 => .cw 0x000083000#35 0x000080000#35
  | .ldPcBus => .cw 0x000083000#35 0x000081000#35
  | .ldPcAddrSum => .cw 0x000083000#35 0x000082000#35
  | .ldPcReserved => .cw 0x000083000#35 0x000083000#35
  | .gateMarmux => .cw 0x000008000#35 0x000008000#35
  | .gatePc => .cw 0x000048000#35 0x000040000#35
  | .gateAlu => .cw 0x000058000#35 0x000010000#35
  | .gateShf => .cw 0x00005C000#35 0x000004000#35
  | .gateMdr => .cw 0x00007C000#35 0x000020000#35
  | .busNone => .cw 0x00007C000#35 0x000000000#35
  | .drmuxIr11To9 => .cw 0x000000800#35 0x000000000#35
  | .drmuxR7 => .cw 0x000000800#35 0x000000800#35
  | .sr1muxIr11To9 => .cw 0x000000400#35 0x000000000#35
  | .sr1muxIr8To6 => .cw 0x000000400#35 0x000000400#35
  | .addr1muxPc => .cw 0x000000200#35 0x000000000#35
  | .addr1muxSr1 => .cw 0x000000200#35 0x000000200#35
  | .addr2muxZero => .cw 0x000000180#35 0x000000000#35
  | .addr2muxOff6 => .cw 0x000000180#35 0x000000080#35
  | .addr2muxOff9 => .cw 0x000000180#35 0x000000100#35
  | .addr2muxOff11 => .cw 0x000000180#35 0x000000180#35
  | .lshf1 => .cw 0x000000001#35 0x000000001#35
  | .marmuxTrapvect => .cw 0x000000040#35 0x000000000#35
  | .marmuxAddrSum => .cw 0x000000040#35 0x000000040#35
  | .aluAdd => .cw 0x000000030#35 0x000000000#35
  | .aluAnd => .cw 0x000000030#35 0x000000010#35
  | .aluXor => .cw 0x000000030#35 0x000000020#35
  | .aluPassa => .cw 0x000000030#35 0x000000030#35
  | .mdrCandWord => .cw 0x000000002#35 0x000000002#35
  | .mdrCandByte => .cw 0x000000002#35 0x000000000#35
  | .memIdle => .cw 0x000000008#35 0x000000000#35
  | .memRead => .cw 0x00000000C#35 0x000000008#35
  | .memWriteWord => .cw 0x00000000E#35 0x00000000E#35
  | .memWriteByte => .cw 0x00000000E#35 0x00000000C#35
  | .irDispatch opcode => .ir 0xF000#16 (opcode.zeroExtend 16 <<< 12)
  | .irCondBit11 ir11 => .ir 0x0800#16 ((BitVec.ofBool ir11).zeroExtend 16 <<< 11)
  | .irBenNzp n z p =>
      .ir 0x0E00#16 ((BitVec.ofBool n).zeroExtend 16 <<< 11 ||| (BitVec.ofBool z).zeroExtend 16 <<< 10
        ||| (BitVec.ofBool p).zeroExtend 16 <<< 9)
  | .irSr2Reg sr2 => .ir (0x0020#16 ||| 0x0007#16) (0x0000#16 ||| sr2.zeroExtend 16)
  | .irSr2Imm5 imm5 => .ir (0x0020#16 ||| 0x001F#16) (0x0020#16 ||| imm5.zeroExtend 16)
  | .irShfLshf amount4 => .ir (0x0010#16 ||| 0x000F#16) (0x0000#16 ||| amount4.zeroExtend 16)
  | .irShfRshfl amount4 => .ir (0x0030#16 ||| 0x000F#16) (0x0010#16 ||| amount4.zeroExtend 16)
  | .irShfRshfa amount4 => .ir (0x0030#16 ||| 0x000F#16) (0x0030#16 ||| amount4.zeroExtend 16)

/-- A control word and an instruction register fit a pattern when they hold its bits under its mask. -/
def Pattern.fits (p : Pattern) (cw : ControlWord) (ir : Word) : Bool :=
  match p with
  | .cw mask bits => cw &&& mask == bits
  | .ir mask bits => ir &&& mask == bits

/-- The control word that asks for an instruction and leaves every other bit 0; all zero for an IR16 row. -/
def encodeCw (i : Instr) : ControlWord :=
  match pattern i with
  | .cw _ bits => bits
  | .ir _ _ => 0#35

/-- The `IR` value that holds an IR16 row's bits and leaves every other bit 0; all zero for a CW35 row. -/
def encodeIr (i : Instr) : Word :=
  match pattern i with
  | .cw _ _ => 0#16
  | .ir _ bits => bits

/-! ## Decoding one field at a time -/

/-- The fields that are decoded independently of each other (R83): each row of the table belongs to one. -/
inductive Slot where
  | seq | sr1 | mem | mdrCand | addr1 | addr2 | lshf1 | marmux | alu | dr | bus
  | ldMar | ldIr | ldMdr | ldBen | ldReg | ldPc | ldCc
  | irDispatch | irCond | irBen | irSr2 | irShf
  deriving DecidableEq, Repr

/-- The field a row belongs to. -/
def slotOf (i : Instr) : Slot :=
  match i with
  | .seqDispatch | .seqJ _ | .seqJOrReady _ | .seqJOrBen _ | .seqJOrIr11 _ => .seq
  | .ldMar => .ldMar
  | .ldMdrMem | .ldMdrBusWord | .ldMdrBusByte => .ldMdr
  | .ldIr => .ldIr
  | .ldBen => .ldBen
  | .ldReg => .ldReg
  | .ldCc => .ldCc
  | .ldPcPlus2 | .ldPcBus | .ldPcAddrSum | .ldPcReserved => .ldPc
  | .gateMarmux | .gatePc | .gateAlu | .gateShf | .gateMdr | .busNone => .bus
  | .drmuxIr11To9 | .drmuxR7 => .dr
  | .sr1muxIr11To9 | .sr1muxIr8To6 => .sr1
  | .addr1muxPc | .addr1muxSr1 => .addr1
  | .addr2muxZero | .addr2muxOff6 | .addr2muxOff9 | .addr2muxOff11 => .addr2
  | .lshf1 => .lshf1
  | .marmuxTrapvect | .marmuxAddrSum => .marmux
  | .aluAdd | .aluAnd | .aluXor | .aluPassa => .alu
  | .mdrCandWord | .mdrCandByte => .mdrCand
  | .memIdle | .memRead | .memWriteWord | .memWriteByte => .mem
  | .irDispatch _ => .irDispatch
  | .irCondBit11 _ => .irCond
  | .irBenNzp _ _ _ => .irBen
  | .irSr2Reg _ | .irSr2Imm5 _ => .irSr2
  | .irShfLshf _ | .irShfRshfl _ | .irShfRshfa _ => .irShf

/-- What one field of a control word or of `IR` asks for; none where its load enable or `LSHF1` is 0. -/
def decodeSlot (k : Slot) (cw : ControlWord) (ir : Word) : Option Instr :=
  match k with
  | .seq => some (seqOf cw)
  | .sr1 => some (sr1Of cw)
  | .mem => some (memOf cw)
  | .mdrCand => some (mdrCandOf cw)
  | .addr1 => some (addr1Of cw)
  | .addr2 => some (addr2Of cw)
  | .lshf1 => lshf1Of cw
  | .marmux => some (marmuxOf cw)
  | .alu => some (aluOf cw)
  | .dr => some (drOf cw)
  | .bus => some (busOf cw)
  | .ldMar => ldMarOf cw
  | .ldIr => ldIrOf cw
  | .ldMdr => ldMdrOf cw
  | .ldBen => ldBenOf cw
  | .ldReg => ldRegOf cw
  | .ldPc => ldPcOf cw
  | .ldCc => ldCcOf cw
  | .irDispatch => some (irDispatchOf ir)
  | .irCond => some (irCondOf ir)
  | .irBen => some (irBenOf ir)
  | .irSr2 => some (irSr2Of ir)
  | .irShf => some (irShfOf ir)

/-! ## One row for one word (the host's question) -/

/-- The one row named for a control word that asks for several: the first asserted load enable, gate, memory
enable or non-zero select, and the next-address row where nothing else is asserted. DESIGN CHOICE, safe, log 3:
`step` never uses it, it runs every row of `microOps`. -/
def leadOp (cw : ControlWord) : Instr :=
  match (ldMarOf cw).toList ++ (ldMdrOf cw).toList ++ (ldIrOf cw).toList ++ (ldBenOf cw).toList ++
      (ldRegOf cw).toList ++ (ldCcOf cw).toList ++ (ldPcOf cw).toList with
  | i :: _ => i
  | [] =>
    if busOf cw ≠ .busNone then busOf cw
    else if cwMioEn cw then memOf cw
    else if cwDrmux cw then drOf cw
    else if cwSr1mux cw then sr1Of cw
    else if cwAddr1mux cw then addr1Of cw
    else if cwAddr2mux cw ≠ 0#2 then addr2Of cw
    else if cwLshf1 cw then .lshf1
    else if cwMarmux cw then marmuxOf cw
    else if cwAluk cw ≠ 0#2 then aluOf cw
    else if cwDataSize cw then mdrCandOf cw
    else seqOf cw

/-- The one row named for an `IR` value: a right shift, else the second-operand row. DESIGN CHOICE, safe, log 3. -/
def leadIrOp (ir : Word) : Instr := if irBit4 ir then irShfOf ir else irSr2Of ir

/-- A table word is read as an `IR` value when the table gives it 16 bits and it holds only shift and
second-operand bits; every other word is a control word. DESIGN CHOICE, safe, log 3. -/
def isIrTableWord (nbits w : Nat) : Bool := nbits == 16 && decide (w < 64)

/-- The row this decoder names for a table word (bit 0 least significant). A number that is no 35-bit word is no
control word. -/
def decodeTableWord (nbits w : Nat) : Option Instr :=
  if w ≥ 2 ^ 35 then none
  else if isIrTableWord nbits w then some (leadIrOp (BitVec.ofNat 16 w))
  else some (leadOp (BitVec.ofNat 35 w))

end Sys2Proof
end

