-- ==== Sys2Proof/Machine/Operands.lean ====
section
/-! DEFINITION. Operand forms: immediates (30_encoding.md R75), register selection, and the values of the
evaluator's nets as functions of their operands (42_bus_drivers.md). Every result is 16 bits (00_scope.md R9). -/

namespace Sys2Proof.Machine

/-- `REG[i]` (R28): no register is hard-wired, every one of the eight reads what it holds. -/
def regRead (regs : Vector Word 8) (i : RegIdx) : Word := regs[i.toNat]

/-- The register file with `REG[i]` written and the other seven kept (R189). -/
def regWrite (regs : Vector Word 8) (i : RegIdx) (v : Word) : Vector Word 8 := regs.set i.toNat v

/-- `imm5 = sext_5(IR[4:0])` (R75). -/
def imm5Value (v : BitVec 5) : Word := v.signExtend 16

/-- `off6 = sext_6(IR[5:0])` (R75). -/
def off6Value (ir : Word) : Word := (irOff6 ir).signExtend 16

/-- `off9 = sext_9(IR[8:0])` (R75). -/
def off9Value (ir : Word) : Word := (irOff9 ir).signExtend 16

/-- `off11 = sext_11(IR[10:0])` (R75). -/
def off11Value (ir : Word) : Word := (irOff11 ir).signExtend 16

/-- `trapvect = lshift(zext_8(IR[7:0]), 1)` (R75, R146). -/
def trapvectValue (ir : Word) : Word := (irLow8 ir).zeroExtend 16 <<< 1

/-- The high byte of a word, bits 15..8. -/
def highByte (v : Word) : Byte := v.extractLsb' 8 8

/-- The low byte of a word, bits 7..0. -/
def lowByte (v : Word) : Byte := v.extractLsb' 0 8

/-- `sext_8` (R9). -/
def sext8 (b : Byte) : Word := b.signExtend 16

/-- The dispatch target `zext_6(IR[15:12])` (R101). -/
def dispatchTarget (opcode : BitVec 4) : MicroState := opcode.zeroExtend 6

/-- `J OR (READY << 1)` (R103). -/
def injectReady (j : MicroState) (ready : Bool) : MicroState := j ||| ((BitVec.ofBool ready).zeroExtend 6 <<< 1)

/-- `J OR (BEN << 2)` (R104). -/
def injectBen (j : MicroState) (ben : Bool) : MicroState := j ||| ((BitVec.ofBool ben).zeroExtend 6 <<< 2)

/-- `J OR IR[11]` (R105). -/
def injectIr11 (j : MicroState) (ir11 : Bool) : MicroState := j ||| (BitVec.ofBool ir11).zeroExtend 6

/-- `ADDR_SUM`: the sum of the two adder inputs, modulo 2^16 (R145). -/
def addrSum (addr1 addr2 : Word) : Word := addr1 + addr2

/-- `ADDR_SUM` as the evaluator's wires carry it (R39, R145; log 11). -/
def Nets.addrSum (w : Nets) : Word := Sys2Proof.Machine.addrSum w.addr1Out w.addr2Out

/-- `lshift(a2, 1)` (R144). -/
def shiftAddr2 (a2 : Word) : Word := a2 <<< 1

/-- The byte candidate (R141): the half of `MDR` that `MAR[0]` selects, sign-extended. -/
def byteCandidate (mar mdr : Word) : Word := if mar.getLsbD 0 then sext8 (highByte mdr) else sext8 (lowByte mdr)

/-- `SHF_OUT` of a left shift (R156). -/
def shiftLeft (v : Word) (amount : BitVec 4) : Word := v <<< amount.toNat

/-- `SHF_OUT` of a logical right shift (R157). -/
def shiftRightLogical (v : Word) (amount : BitVec 4) : Word := v >>> amount.toNat

/-- `SHF_OUT` of an arithmetic right shift (R158). -/
def shiftRightArith (v : Word) (amount : BitVec 4) : Word := v.sshiftRight amount.toNat

/-- `{BUS[7:0], BUS[7:0]}` (R184). -/
def duplicateLow (bus : Word) : Word := lowByte bus ++ lowByte bus

/-- `MDR` from the bus in byte mode: duplicated at an odd `MAR` (R184), the whole bus at an even one (R185). -/
def byteBusData (mar bus : Word) : Word := if mar.getLsbD 0 then duplicateLow bus else bus

/-- The byte of `MDR` a byte write stores (R126): the half at the position of the target byte. -/
def storeByte (mar mdr : Word) : Byte := if mar.getLsbD 0 then highByte mdr else lowByte mdr

/-- The destination register of `DRMUX = 1` (R160). -/
def linkReg : RegIdx := 7#3

/-- `PC + 2`, modulo 2^16 (R191). -/
def pcPlus2 (pc : Word) : Word := pc + 2#16

end Sys2Proof.Machine
end

