-- ==== Sys2Proof/Machine/Ops.lean ====
section
/-! DEFINITION. The named operations over memory, latches and nets that the meanings share: memory access
(20_memory.md), the steps of the memory timing unit (41_memory_unit.md), raising a fault (60_exceptions.md R213),
and the edges of a cycle (44_latch_commit.md R199 to R201).

The block has no exception, no trap entry and no return from one (R210 to R212): `raiseFault` is the only stop. -/

namespace Sys2Proof.Machine

/-! ## Memory (20_memory.md) -/

/-- One byte of memory; an address that is not listed reads as `Config.unlistedByte` (log 16). -/
def Memory.read (m : Memory) (a : Nat) : Byte :=
  match m with
  | [] => Config.unlistedByte
  | (b, v) :: rest => if a = b then v else Memory.read rest a

/-- Memory with one byte written, in canonical form: writing what an unlisted address reads as removes the entry. -/
def Memory.write (m : Memory) (a : Nat) (v : Byte) : Memory :=
  match m with
  | [] => if v = Config.unlistedByte then [] else [(a, v)]
  | (b, w) :: rest =>
    if a < b then (if v = Config.unlistedByte then (b, w) :: rest else (a, v) :: (b, w) :: rest)
    else if a = b then (if v = Config.unlistedByte then rest else (a, v) :: rest)
    else (b, w) :: Memory.write rest a v

/-- The byte address of the low byte of the pair `MEM[a[15:1]]` (R51). -/
def pairLow (a : Word) : Nat := 2 * (a >>> 1).toNat

/-- The byte address of the high byte of the pair `MEM[a[15:1]]` (R51). -/
def pairHigh (a : Word) : Nat := 2 * (a >>> 1).toNat + 1

/-- `MemReadWord(a)`: the pair at `a[15:1]`, high byte first; `a[0]` is ignored (R52). -/
def memReadWord (m : Memory) (a : Word) : Word := m.read (pairHigh a) ++ m.read (pairLow a)

/-- `MemWriteWord(a, v)`: both bytes of the pair at `a[15:1]`; `a[0]` is ignored (R53). -/
def memWriteWord (m : Memory) (a : Word) (v : Word) : Memory :=
  (m.write (pairLow a) (lowByte v)).write (pairHigh a) (highByte v)

/-- `MemWriteByte(a, b)`: the byte of the pair that `a[0]` selects; the other byte is kept (R54). -/
def memWriteByte (m : Memory) (a : Word) (b : Byte) : Memory :=
  if a.getLsbD 0 then m.write (pairHigh a) b else m.write (pairLow a) b

/-! ## Writing the staged latches and the nets -/

/-- The state with another staged latch set: what a unit writes goes to `nxt` only (R38). -/
def State.withNxt (s : State) (l : Latches) : State := { s with nxt := l }

/-- The state with other nets. -/
def State.withNets (s : State) (w : Nets) : State := { s with nets := w }

/-- The state with another memory: a write transfer is not staged (R62). -/
def State.withMem (s : State) (m : Memory) : State := { s with mem := m }

/-- The state with another latency counter: it is not staged (R33). -/
def State.withMemCounter (s : State) (k : Nat) : State := { s with memCounter := k }

/-- The control word that drives the cycle, `cur.MICROINSTRUCTION` (R10). -/
def State.controlWord (s : State) : ControlWord := s.cur.microinstruction

/-! ## Unit 1: fetch of the next control word (R108) and `SR1_VAL` (R110) -/

/-- The control-store row of a micro-state (R31). -/
def controlRow (store : Vector ControlWord 64) (k : MicroState) : ControlWord := store[k.toNat]

/-- Form `NEXT_STATE` and fetch: `nxt.STATE_NUMBER` and `nxt.MICROINSTRUCTION` (R108). -/
def selectRow (k : MicroState) (s : State) : State :=
  (s.withNets { s.nets with nextState := k }).withNxt
    { s.nxt with stateNumber := k, microinstruction := controlRow s.controlStore k }

/-- Form `SR1_IDX` and `SR1_VAL` (R109, R110). -/
def selectSr1 (i : RegIdx) (s : State) : State :=
  s.withNets { s.nets with sr1Idx := i, sr1Val := regRead s.cur.regs i }

/-! ## Unit 2: the memory timing unit (R120 to R128) -/

/-- The start of the unit's cycle: `MEM_DONE` is 0 and there is no read result yet (R128). -/
def beginMemory (s : State) : State := s.withNets { s.nets with memDone := false, memRdata := none }

/-- Count one cycle (R120), and raise `READY` for the following one when the incremented counter is
`MEM_CYCLES - 1` (R121). -/
def countAccess (s : State) : State :=
  (s.withMemCounter (s.memCounter + 1)).withNxt
    { s.nxt with ready := s.nxt.ready || (s.memCounter + 1 == s.memCycles - 1) }

/-- End the access: `MEM_DONE` is 1, `READY` and the counter return to 0 (R122, R127). -/
def endAccess (s : State) : State :=
  ((s.withNets { s.nets with memDone := true }).withNxt { s.nxt with ready := false }).withMemCounter 0

/-- The read transfer: `MEM_RDATA` is the word at `cur.MAR` (R123, R124). -/
def transferRead (s : State) : State :=
  endAccess (s.withNets { s.nets with memRdata := some (memReadWord s.mem s.cur.mar) })

/-- The word write transfer (R123, R125). -/
def transferWriteWord (s : State) : State := endAccess (s.withMem (memWriteWord s.mem s.cur.mar s.cur.mdr))

/-- The byte write transfer (R123, R126). -/
def transferWriteByte (s : State) : State :=
  endAccess (s.withMem (memWriteByte s.mem s.cur.mar (storeByte s.cur.mar s.cur.mdr)))

/-! ## Units 4 and 5 -/

/-- Put a value on the bus (R170). -/
def driveBus (v : Word) (s : State) : State := s.withNets { s.nets with bus := v }

/-- Write `nxt.BEN` (R186). -/
def stageBen (v : Bool) (s : State) : State := s.withNxt { s.nxt with ben := v }

/-- Write `nxt.MDR`. -/
def stageMdr (v : Word) (s : State) : State := s.withNxt { s.nxt with mdr := v }

/-- Write `nxt.PC`. -/
def stagePc (v : Word) (s : State) : State := s.withNxt { s.nxt with pc := v }

/-! ## Faults (R213) and the edges of a cycle (R200, R201) -/

/-- The state a faulted cycle leaves: no swap, nothing staged survives; `MEM` and `memCounter` keep what the memory
unit already wrote (R213, R194). -/
def State.abandonCycle (s : State) : State := (s.withNxt s.cur).withNets Nets.idle

/-- `raise Fault(IllFormedControlWord)` (R194): it records the control word and the state number (R214). -/
def raiseIllFormed (s : State) : Host.Outcome State Fault Refusal :=
  .fault (.illFormedControlWord s.cur.microinstruction s.cur.stateNumber s.abandonCycle)

/-- The start of a cycle: `nxt <- cur` (R37, R201), and no net has a value yet (log 9). -/
def State.beginCycle (s : State) : State := (s.withNxt s.cur).withNets Nets.idle

/-- The swap at the end of a cycle (R200): `lastBus`, the whole-structure copy, and the cycle counter. -/
def State.swap (s : State) : State :=
  { s with cur := s.nxt, lastBus := s.nets.bus, cycleCount := s.cycleCount + 1, nets := Nets.idle }

/-! ## Placing a word where the next step takes it (log 4) -/

/-- Load one control-store row: the row of the current micro-state, and with it the active control word, which at a
cycle boundary is a copy of that row (R41). -/
def State.placeControlWord (s : State) (cw : ControlWord) : State :=
  { s with
    controlStore := s.controlStore.set s.cur.stateNumber.toNat cw
    cur := { s.cur with microinstruction := cw }
    nxt := { s.nxt with microinstruction := cw } }

/-- Place a value in the instruction register, where the datapath decodes it (R74). -/
def State.placeIr (s : State) (ir : Word) : State :=
  { s with cur := { s.cur with ir := ir }, nxt := { s.nxt with ir := ir } }

end Sys2Proof.Machine
end

