-- ==== Sys2Proof/Machine/Arbiter.lean ====
section
/-! DEFINITION. Unit 4, the bus arbiter (43_bus_arbiter.md R170 to R174).

The priority among gates is in the table's rows themselves: a row of a lower gate matches only where every higher
gate is 0, so exactly one of these six rows matches a control word. -/

namespace Sys2Proof.Machine

/-- GATE_MARMUX (R170). -/
def execGateMarmux (s : State) : Host.Outcome State Fault Refusal := .next (driveBus s.nets.marmuxOut s)

/-- GATE_PC (R170, R174): the value before any `LD_PC` of the cycle. -/
def execGatePc (s : State) : Host.Outcome State Fault Refusal := .next (driveBus s.cur.pc s)

/-- GATE_ALU (R170). -/
def execGateAlu (s : State) : Host.Outcome State Fault Refusal := .next (driveBus s.nets.aluOut s)

/-- GATE_SHF (R170). -/
def execGateShf (s : State) : Host.Outcome State Fault Refusal := .next (driveBus s.nets.shfOut s)

/-- GATE_MDR (R170). -/
def execGateMdr (s : State) : Host.Outcome State Fault Refusal := .next (driveBus s.nets.mdrCand s)

/-- BUS_NONE (R171): no gate, the bus is 0. -/
def execBusNone (s : State) : Host.Outcome State Fault Refusal := .next (driveBus 0#16 s)

end Sys2Proof.Machine
end

