-- ==== Sys2Proof/Machine/BusDrivers.lean ====
section
/-! DEFINITION. Unit 3, the bus-driver evaluator (42_bus_drivers.md R140 to R160).

Each meaning writes one net from `cur` and from nets of the same cycle; it writes no latch, no memory and no
counter (R161). -/

namespace Sys2Proof.Machine

/-- MDR_CAND_WORD (R140). -/
def execMdrCandWord (s : State) : Host.Outcome State Fault Refusal :=
  .next (s.withNets { s.nets with mdrCand := s.cur.mdr })

/-- MDR_CAND_BYTE (R141). -/
def execMdrCandByte (s : State) : Host.Outcome State Fault Refusal :=
  .next (s.withNets { s.nets with mdrCand := byteCandidate s.cur.mar s.cur.mdr })

/-- ADDR1MUX_PC (R142). -/
def execAddr1muxPc (s : State) : Host.Outcome State Fault Refusal :=
  .next (s.withNets { s.nets with addr1Out := s.cur.pc })

/-- ADDR1MUX_SR1 (R142). -/
def execAddr1muxSr1 (s : State) : Host.Outcome State Fault Refusal :=
  .next (s.withNets { s.nets with addr1Out := s.nets.sr1Val })

/-- ADDR2MUX_ZERO (R143). -/
def execAddr2muxZero (s : State) : Host.Outcome State Fault Refusal :=
  .next (s.withNets { s.nets with addr2Out := 0#16 })

/-- ADDR2MUX_OFF6 (R143). -/
def execAddr2muxOff6 (s : State) : Host.Outcome State Fault Refusal :=
  .next (s.withNets { s.nets with addr2Out := off6Value s.cur.ir })

/-- ADDR2MUX_OFF9 (R143). -/
def execAddr2muxOff9 (s : State) : Host.Outcome State Fault Refusal :=
  .next (s.withNets { s.nets with addr2Out := off9Value s.cur.ir })

/-- ADDR2MUX_OFF11 (R143). -/
def execAddr2muxOff11 (s : State) : Host.Outcome State Fault Refusal :=
  .next (s.withNets { s.nets with addr2Out := off11Value s.cur.ir })

/-- LSHF1 (R144): the second adder input shifted left by one, bit 15 discarded. -/
def execLshf1 (s : State) : Host.Outcome State Fault Refusal :=
  .next (s.withNets { s.nets with addr2Out := shiftAddr2 s.nets.addr2Out })

/-- MARMUX_TRAPVECT (R146). -/
def execMarmuxTrapvect (s : State) : Host.Outcome State Fault Refusal :=
  .next (s.withNets { s.nets with marmuxOut := trapvectValue s.cur.ir })

/-- MARMUX_ADDR_SUM (R145, R146). -/
def execMarmuxAddrSum (s : State) : Host.Outcome State Fault Refusal :=
  .next (s.withNets { s.nets with marmuxOut := s.nets.addrSum })

/-- IR_SR2_REG (R150): the second ALU operand is a register. -/
def execIrSr2Reg (sr2 : RegIdx) (s : State) : Host.Outcome State Fault Refusal :=
  .next (s.withNets { s.nets with sr2Out := regRead s.cur.regs sr2 })

/-- IR_SR2_IMM5 (R150): the second ALU operand is a sign-extended immediate. -/
def execIrSr2Imm5 (imm5 : BitVec 5) (s : State) : Host.Outcome State Fault Refusal :=
  .next (s.withNets { s.nets with sr2Out := imm5Value imm5 })

/-- ALU_ADD (R151): addition modulo 2^16; no carry, no overflow, no flag. -/
def execAluAdd (s : State) : Host.Outcome State Fault Refusal :=
  .next (s.withNets { s.nets with aluOut := s.nets.sr1Val + s.nets.sr2Out })

/-- ALU_AND (R152). -/
def execAluAnd (s : State) : Host.Outcome State Fault Refusal :=
  .next (s.withNets { s.nets with aluOut := s.nets.sr1Val &&& s.nets.sr2Out })

/-- ALU_XOR (R153). -/
def execAluXor (s : State) : Host.Outcome State Fault Refusal :=
  .next (s.withNets { s.nets with aluOut := s.nets.sr1Val ^^^ s.nets.sr2Out })

/-- ALU_PASSA (R154). -/
def execAluPassa (s : State) : Host.Outcome State Fault Refusal :=
  .next (s.withNets { s.nets with aluOut := s.nets.sr1Val })

/-- IR_SHF_LSHF (R156). -/
def execIrShfLshf (amount4 : BitVec 4) (s : State) : Host.Outcome State Fault Refusal :=
  .next (s.withNets { s.nets with shfOut := shiftLeft s.nets.sr1Val amount4 })

/-- IR_SHF_RSHFL (R157). -/
def execIrShfRshfl (amount4 : BitVec 4) (s : State) : Host.Outcome State Fault Refusal :=
  .next (s.withNets { s.nets with shfOut := shiftRightLogical s.nets.sr1Val amount4 })

/-- IR_SHF_RSHFA (R158). -/
def execIrShfRshfa (amount4 : BitVec 4) (s : State) : Host.Outcome State Fault Refusal :=
  .next (s.withNets { s.nets with shfOut := shiftRightArith s.nets.sr1Val amount4 })

/-- DRMUX_IR11_9 (R160). -/
def execDrmuxIr11To9 (s : State) : Host.Outcome State Fault Refusal :=
  .next (s.withNets { s.nets with drIdx := irRegA s.cur.ir })

/-- DRMUX_R7 (R160). -/
def execDrmuxR7 (s : State) : Host.Outcome State Fault Refusal :=
  .next (s.withNets { s.nets with drIdx := linkReg })

end Sys2Proof.Machine
end

