-- ==== Sys2Proof/Machine/LatchCommit.lean ====
section
/-! DEFINITION. Unit 5, the latch commit (44_latch_commit.md R180 to R197).

Each meaning writes one latch of `nxt` from `cur`, the bus and nets; the other latches keep their values (R196).
The writes touch different fields, so their order does not matter (R188). -/

namespace Sys2Proof.Machine

/-- LD_MAR (R180). -/
def execLdMar (s : State) : Host.Outcome State Fault Refusal := .next (s.withNxt { s.nxt with mar := s.nets.bus })

/-- LD_IR (R181). -/
def execLdIr (s : State) : Host.Outcome State Fault Refusal := .next (s.withNxt { s.nxt with ir := s.nets.bus })

/-- LD_MDR_MEM (R183): `MDR` takes the read result in the cycle a read completes, and is not written otherwise
(log 12). -/
def execLdMdrMem (s : State) : Host.Outcome State Fault Refusal :=
  .next (if s.nets.memDone && !(cwRW s.controlWord) then
      match s.nets.memRdata with
      | some v => stageMdr v s
      | none => s
    else s)

/-- LD_MDR_BUS_WORD (R185). -/
def execLdMdrBusWord (s : State) : Host.Outcome State Fault Refusal := .next (stageMdr s.nets.bus s)

/-- LD_MDR_BUS_BYTE (R184, R185). -/
def execLdMdrBusByte (s : State) : Host.Outcome State Fault Refusal :=
  .next (stageMdr (byteBusData s.cur.mar s.nets.bus) s)

/-- LD_BEN (R186, R187): from `cur.IR` and the current flags. -/
def execLdBen (s : State) : Host.Outcome State Fault Refusal :=
  .next (stageBen (branchEnable (irBit11 s.cur.ir) (irBit10 s.cur.ir) (irBit9 s.cur.ir) s.cur.n s.cur.z s.cur.p) s)

/-- IR_BEN_NZP (R186): the `IR` terms of `BEN`, used when the control word has `LD_BEN = 1` (log 2). -/
def execIrBenNzp (n z p : Bool) (s : State) : Host.Outcome State Fault Refusal :=
  .next (if cwLdBen s.controlWord then stageBen (branchEnable n z p s.cur.n s.cur.z s.cur.p) s else s)

/-- LD_REG (R189): the one write port of the register file. -/
def execLdReg (s : State) : Host.Outcome State Fault Refusal :=
  .next (s.withNxt { s.nxt with regs := regWrite s.nxt.regs s.nets.drIdx s.nets.bus })

/-- LD_CC (R195): `N`, `Z`, `P` from the signed bus value, exactly one of them 1. -/
def execLdCc (s : State) : Host.Outcome State Fault Refusal :=
  .next (s.withNxt { s.nxt with n := flagN s.nets.bus, z := flagZ s.nets.bus, p := flagP s.nets.bus })

/-- LD_PC_PLUS2 (R191). -/
def execLdPcPlus2 (s : State) : Host.Outcome State Fault Refusal := .next (stagePc (pcPlus2 s.cur.pc) s)

/-- LD_PC_BUS (R192). -/
def execLdPcBus (s : State) : Host.Outcome State Fault Refusal := .next (stagePc s.nets.bus s)

/-- LD_PC_ADDR_SUM (R193). -/
def execLdPcAddrSum (s : State) : Host.Outcome State Fault Refusal := .next (stagePc s.nets.addrSum s)

/-- LD_PC_RESERVED (R194): `raise Fault(IllFormedControlWord)`. -/
def execLdPcReserved (s : State) : Host.Outcome State Fault Refusal := raiseIllFormed s

end Sys2Proof.Machine
end

