-- ==== Sys2Proof/Machine/MemoryUnit.lean ====
section
/-! DEFINITION. Unit 2, the memory timing unit (41_memory_unit.md R120 to R128).

With `MIO_EN = 1` the unit counts, raises `READY` for the following cycle at `MEM_CYCLES - 1`, and performs the
transfer in a cycle where `cur.READY` is already set. A transfer always uses `cur.MAR` (R123). -/

namespace Sys2Proof.Machine

/-- MEM_IDLE (R120): `MIO_EN = 0`, the unit does nothing and `MEM_DONE` is 0. -/
def execMemIdle (s : State) : Host.Outcome State Fault Refusal := .next (beginMemory s)

/-- MEM_READ (R120 to R124, R127): count, and on `cur.READY` read the word at `cur.MAR`. -/
def execMemRead (s : State) : Host.Outcome State Fault Refusal :=
  .next (if s.cur.ready then transferRead (countAccess (beginMemory s)) else countAccess (beginMemory s))

/-- MEM_WRITE_WORD (R120 to R123, R125, R127): count, and on `cur.READY` write `cur.MDR` at `cur.MAR`. -/
def execMemWriteWord (s : State) : Host.Outcome State Fault Refusal :=
  .next (if s.cur.ready then transferWriteWord (countAccess (beginMemory s)) else countAccess (beginMemory s))

/-- MEM_WRITE_BYTE (R120 to R123, R126, R127): count, and on `cur.READY` write the byte of `cur.MDR` that
`MAR[0]` selects. -/
def execMemWriteByte (s : State) : Host.Outcome State Fault Refusal :=
  .next (if s.cur.ready then transferWriteByte (countAccess (beginMemory s)) else countAccess (beginMemory s))

end Sys2Proof.Machine
end

