-- ==== Sys2Proof/Machine/Sequencer.lean ====
section
/-! DEFINITION. Unit 1, the micro-sequencer and its next-address mux (40_sequencer.md).

Each meaning reads `cur` only (R100) and writes `NEXT_STATE`, `nxt.STATE_NUMBER` and `nxt.MICROINSTRUCTION`, or
`SR1_IDX` and `SR1_VAL`. No fault is possible: a next state has 6 bits (R111). -/

namespace Sys2Proof.Machine

/-- SEQ_DISPATCH (R101): `IRD = 1`, the next state is the opcode `IR[15:12]`. -/
def execSeqDispatch (s : State) : Host.Outcome State Fault Refusal :=
  .next (selectRow (dispatchTarget (irOpcode s.cur.ir)) s)

/-- SEQ_J (R106): the next state is `J`. -/
def execSeqJ (j : MicroState) (s : State) : Host.Outcome State Fault Refusal := .next (selectRow j s)

/-- SEQ_J_OR_READY (R103): bit 1 of `J` is forced by `cur.READY`. -/
def execSeqJOrReady (j : MicroState) (s : State) : Host.Outcome State Fault Refusal :=
  .next (selectRow (injectReady j s.cur.ready) s)

/-- SEQ_J_OR_BEN (R104): bit 2 of `J` is forced by `cur.BEN`. -/
def execSeqJOrBen (j : MicroState) (s : State) : Host.Outcome State Fault Refusal :=
  .next (selectRow (injectBen j s.cur.ben) s)

/-- SEQ_J_OR_IR11 (R105): bit 0 of `J` is forced by `cur.IR[11]`. -/
def execSeqJOrIr11 (j : MicroState) (s : State) : Host.Outcome State Fault Refusal :=
  .next (selectRow (injectIr11 j (irBit11 s.cur.ir)) s)

/-- IR_DISPATCH (R101, R83): opcode k selects control-store row k when the control word has `IRD = 1`; with
`IRD = 0` the field is not used (log 2). -/
def execIrDispatch (opcode : BitVec 4) (s : State) : Host.Outcome State Fault Refusal :=
  .next (if cwIrd s.controlWord then selectRow (dispatchTarget opcode) s else s)

/-- IR_COND_BIT11 (R105): the bit injected into bit 0 of `J` when `IRD = 0` and `COND = 11`; otherwise the field is
not used (log 2). -/
def execIrCondBit11 (ir11 : Bool) (s : State) : Host.Outcome State Fault Refusal :=
  .next (if !(cwIrd s.controlWord) && cwCond s.controlWord == 3#2 then
      selectRow (injectIr11 (cwJ s.controlWord) ir11) s else s)

/-- SR1MUX_IR11_9 (R109, R110). -/
def execSr1muxIr11To9 (s : State) : Host.Outcome State Fault Refusal := .next (selectSr1 (irRegA s.cur.ir) s)

/-- SR1MUX_IR8_6 (R109, R110). -/
def execSr1muxIr8To6 (s : State) : Host.Outcome State Fault Refusal := .next (selectSr1 (irRegB s.cur.ir) s)

end Sys2Proof.Machine
end

