-- ==== Sys2Proof/Machine/Dispatch.lean ====
section
/-! DEFINITION. One arm for each instruction, in the order of spec/opcode_table.json. -/

namespace Sys2Proof.Machine

def exec (i : Instr) (s : State) : Host.Outcome State Fault Refusal :=
  match i with
  | .seqDispatch => Sys2Proof.Machine.execSeqDispatch s
  | .seqJ j => Sys2Proof.Machine.execSeqJ j s
  | .seqJOrReady j => Sys2Proof.Machine.execSeqJOrReady j s
  | .seqJOrBen j => Sys2Proof.Machine.execSeqJOrBen j s
  | .seqJOrIr11 j => Sys2Proof.Machine.execSeqJOrIr11 j s
  | .ldMar => Sys2Proof.Machine.execLdMar s
  | .ldMdrMem => Sys2Proof.Machine.execLdMdrMem s
  | .ldMdrBusWord => Sys2Proof.Machine.execLdMdrBusWord s
  | .ldMdrBusByte => Sys2Proof.Machine.execLdMdrBusByte s
  | .ldIr => Sys2Proof.Machine.execLdIr s
  | .ldBen => Sys2Proof.Machine.execLdBen s
  | .ldReg => Sys2Proof.Machine.execLdReg s
  | .ldCc => Sys2Proof.Machine.execLdCc s
  | .ldPcPlus2 => Sys2Proof.Machine.execLdPcPlus2 s
  | .ldPcBus => Sys2Proof.Machine.execLdPcBus s
  | .ldPcAddrSum => Sys2Proof.Machine.execLdPcAddrSum s
  | .ldPcReserved => Sys2Proof.Machine.execLdPcReserved s
  | .gateMarmux => Sys2Proof.Machine.execGateMarmux s
  | .gatePc => Sys2Proof.Machine.execGatePc s
  | .gateAlu => Sys2Proof.Machine.execGateAlu s
  | .gateShf => Sys2Proof.Machine.execGateShf s
  | .gateMdr => Sys2Proof.Machine.execGateMdr s
  | .busNone => Sys2Proof.Machine.execBusNone s
  | .drmuxIr11To9 => Sys2Proof.Machine.execDrmuxIr11To9 s
  | .drmuxR7 => Sys2Proof.Machine.execDrmuxR7 s
  | .sr1muxIr11To9 => Sys2Proof.Machine.execSr1muxIr11To9 s
  | .sr1muxIr8To6 => Sys2Proof.Machine.execSr1muxIr8To6 s
  | .addr1muxPc => Sys2Proof.Machine.execAddr1muxPc s
  | .addr1muxSr1 => Sys2Proof.Machine.execAddr1muxSr1 s
  | .addr2muxZero => Sys2Proof.Machine.execAddr2muxZero s
  | .addr2muxOff6 => Sys2Proof.Machine.execAddr2muxOff6 s
  | .addr2muxOff9 => Sys2Proof.Machine.execAddr2muxOff9 s
  | .addr2muxOff11 => Sys2Proof.Machine.execAddr2muxOff11 s
  | .lshf1 => Sys2Proof.Machine.execLshf1 s
  | .marmuxTrapvect => Sys2Proof.Machine.execMarmuxTrapvect s
  | .marmuxAddrSum => Sys2Proof.Machine.execMarmuxAddrSum s
  | .aluAdd => Sys2Proof.Machine.execAluAdd s
  | .aluAnd => Sys2Proof.Machine.execAluAnd s
  | .aluXor => Sys2Proof.Machine.execAluXor s
  | .aluPassa => Sys2Proof.Machine.execAluPassa s
  | .mdrCandWord => Sys2Proof.Machine.execMdrCandWord s
  | .mdrCandByte => Sys2Proof.Machine.execMdrCandByte s
  | .memIdle => Sys2Proof.Machine.execMemIdle s
  | .memRead => Sys2Proof.Machine.execMemRead s
  | .memWriteWord => Sys2Proof.Machine.execMemWriteWord s
  | .memWriteByte => Sys2Proof.Machine.execMemWriteByte s
  | .irDispatch opcode => Sys2Proof.Machine.execIrDispatch opcode s
  | .irCondBit11 ir11 => Sys2Proof.Machine.execIrCondBit11 ir11 s
  | .irBenNzp n z p => Sys2Proof.Machine.execIrBenNzp n z p s
  | .irSr2Reg sr2 => Sys2Proof.Machine.execIrSr2Reg sr2 s
  | .irSr2Imm5 imm5 => Sys2Proof.Machine.execIrSr2Imm5 imm5 s
  | .irShfLshf amount4 => Sys2Proof.Machine.execIrShfLshf amount4 s
  | .irShfRshfl amount4 => Sys2Proof.Machine.execIrShfRshfl amount4 s
  | .irShfRshfa amount4 => Sys2Proof.Machine.execIrShfRshfa amount4 s

end Sys2Proof.Machine
end

