-- ==== Sys2Proof/Machine/Cycle.lean ====
section
/-! DEFINITION. One clock cycle (44_latch_commit.md R199 to R201) and the halt test before it
(70_reset_and_hazards.md R248). -/

namespace Sys2Proof.Machine

/-- Run micro-operations one after another, stopping at the first that does not answer a next state. -/
def runOps (ops : List Instr) (s : State) : Host.Outcome State Fault Refusal :=
  match ops with
  | [] => .next s
  | i :: rest =>
    match exec i s with
    | .next t => runOps rest t
    | .fault f => .fault f
    | .refused r => .refused r

/-- One cycle (R199, R201): every micro-operation that `cur.MICROINSTRUCTION` and `cur.IR` ask for, in unit order,
then the swap (R200). A fault ends the cycle without the swap (R213). -/
def runCycle (s : State) : Host.Outcome State Fault Refusal :=
  match runOps (microOps s.controlWord s.cur.ir) s.beginCycle with
  | .next t => .next t.swap
  | .fault f => .fault f
  | .refused r => .refused r

/-- The halt test has passed: `halted` becomes 1 and no cycle runs (R248). -/
def State.halt (s : State) : State := { s with halted := true }

/-- One host `step(1)` (R227, R216): refuse if already halted, else the halt test, else one cycle. -/
def stepOnce (s : State) : Host.Outcome State Fault Refusal :=
  if s.halted then .refused .alreadyHalted
  else if s.cur.pc = 0#16 then .next s.halt
  else runCycle s

end Sys2Proof.Machine
end

