-- ==== Sys2Proof/Machine/Step.lean ====
section
/-! DEFINITION. The step function: one clock cycle of the block, or the halt test's outcome (00_scope.md R5). -/

namespace Sys2Proof.Machine

/-- One step of the machine. -/
def step (s : State) : Host.Outcome State Fault Refusal := stepOnce s

/-- The state with a table word stored where the next step takes its instruction: the control-store row of the
current micro-state and the active control word, or `IR` for a word of format IR16 (logs 3 and 4). -/
def State.withFetchWord (s : State) (nbits w : Nat) : State :=
  if isIrTableWord nbits w then s.placeIr (BitVec.ofNat 16 w) else s.placeControlWord (BitVec.ofNat 35 w)

end Sys2Proof.Machine
end

