-- ==== Sys2Proof/Machine/Loader.lean ====
section
/-! DEFINITION. The reset-time load (70_reset_and_hazards.md R240 to R246, 30_encoding.md R71, R82): from the lines
of the control-store file and the words of the image file to the state before the first cycle, or a load error.
Cutting a file into lines and words is the collaborators' (00_scope.md R4, log 17). -/

namespace Sys2Proof.Machine

/-- The fatal load errors (R246): they leave no initial state and are not faults of a run (R215). -/
inductive LoadError where
  /-- A file that cannot be read. -/
  | unreadableFile
  /-- A malformed microcode row, by its number (R244). -/
  | malformedRow (row : Nat)
  /-- Fewer than 64 microcode rows (R244). -/
  | tooFewRows (found : Nat)
  /-- No base word (R246). -/
  | emptyProgram
  /-- A word without a digit: the program file is cut short (R246, log 17). -/
  | truncatedProgram
  /-- A word that is not hexadecimal or does not fit in 16 bits (R246). -/
  | malformedWord
  /-- The last word would pass address 0xFFFF (R246). -/
  | programTooLarge
  deriving DecidableEq, Repr

/-- One character of a control-store row (R71). -/
def rowBit (c : Char) : Option Bool := if c = '0' then some false else if c = '1' then some true else none

/-- The first `n` characters of a row as a number, the leftmost most significant. -/
def readBits (n : Nat) (line : List Char) (acc : Nat) : Option Nat :=
  match n, line with
  | 0, _ => some acc
  | _ + 1, [] => none
  | k + 1, c :: rest =>
    match rowBit c with
    | some b => readBits k rest (2 * acc + b.toNat)
    | none => none

/-- One row of the control-store file (R71, R244): its first 35 characters, character i being bit 34 - i. -/
def decodeRow (line : List Char) : Option ControlWord := (readBits 35 line 0).map (BitVec.ofNat 35)

/-- The rows of the file from row number `k` on. -/
def decodeRows (k : Nat) (lines : List (List Char)) : Except LoadError (List ControlWord) :=
  match lines with
  | [] => .ok []
  | line :: rest =>
    match decodeRow line, decodeRows (k + 1) rest with
    | none, _ => .error (.malformedRow k)
    | some _, .error e => .error e
    | some cw, .ok cws => .ok (cw :: cws)

/-- The control-store load (R71, R243, R244): line k is `CONTROL_STORE[k]`. DESIGN CHOICE, unsafe, log 17: a file that
has too few lines and a bad one among them is reported as `tooFewRows` (R71, R244 and R246 call both fatal and give no
precedence); of several bad rows the first is reported; lines after the 64th are ignored and draw no warning. -/
def loadControlStore (lines : List (List Char)) : Except LoadError (Vector ControlWord 64) :=
  if lines.length < 64 then .error (.tooFewRows lines.length)
  else
    match decodeRows 0 (lines.take 64) with
    | .error e => .error e
    | .ok rows => .ok (Vector.ofFn fun k => rows.getD k.val 0#35)

/-- The row numbers that draw the non-fatal warning: characters after the 35th (R71, R244). Only the 64 rows that are
loaded draw it (DESIGN CHOICE, log 17). -/
def rowWarnings (lines : List (List Char)) : List Nat :=
  (List.range 64).filter fun k => decide (35 < (lines.getD k []).length)

/-- A hexadecimal digit. -/
def hexDigit (c : Char) : Option Nat :=
  if '0' ≤ c ∧ c ≤ '9' then some (c.toNat - '0'.toNat)
  else if 'a' ≤ c ∧ c ≤ 'f' then some (c.toNat - 'a'.toNat + 10)
  else if 'A' ≤ c ∧ c ≤ 'F' then some (c.toNat - 'A'.toNat + 10)
  else none

/-- The digits of a word, most significant first. -/
def readHex (digits : List Char) (acc : Nat) : Option Nat :=
  match digits with
  | [] => some acc
  | c :: rest =>
    match hexDigit c with
    | some d => readHex rest (16 * acc + d)
    | none => none

/-- The optional `0x` or `x` before a word (R82). -/
def dropHexMark (word : List Char) : List Char :=
  match word with
  | '0' :: 'x' :: rest => rest
  | 'x' :: rest => rest
  | digits => digits

/-- One word of the image file: 1 to 4 hexadecimal digits (R82, D22). -/
def readWord (word : List Char) : Except LoadError Word :=
  match dropHexMark word with
  | [] => .error .truncatedProgram
  | c :: rest =>
    if 4 < (c :: rest).length then .error .malformedWord
    else
      match readHex (c :: rest) 0 with
      | some v => .ok (BitVec.ofNat 16 v)
      | none => .error .malformedWord

/-- Every word of the image file. -/
def readWords (words : List (List Char)) : Except LoadError (List Word) :=
  match words with
  | [] => .ok []
  | w :: rest =>
    match readWord w, readWords rest with
    | .error e, _ => .error e
    | .ok _, .error e => .error e
    | .ok v, .ok vs => .ok (v :: vs)

/-- Store consecutive words from byte address `a` on (R245). -/
def storeImage (a : Nat) (ws : List Word) (m : Memory) : Memory :=
  match ws with
  | [] => m
  | w :: rest => storeImage (a + 2) rest (memWriteWord m (BitVec.ofNat 16 a) w)

/-- The load address `base' = {base[15:1], 0}` (R242, R245). -/
def loadAddress (base : Word) : Word := base &&& 0xFFFE#16

/-- The image load (R245, R246): the base and the memory with the image in it. -/
def loadImage (words : List Word) : Except LoadError (Word × Memory) :=
  match words with
  | [] => .error .emptyProgram
  | base :: ws =>
    if 0x10000 < (loadAddress base).toNat + 2 * ws.length then .error .programTooLarge
    else .ok (base, storeImage (loadAddress base).toNat ws [])

/-- What enters the block before it runs (R6, R40): the two parameters and the two files, absent if unreadable. -/
structure LoadInputs where
  /-- `MEM_CYCLES`. -/
  memCycles : Nat
  /-- `INITIAL_STATE`. -/
  initialState : MicroState
  /-- The lines of the control-store file. -/
  microcode : Option (List (List Char))
  /-- The words of the image file. -/
  image : Option (List (List Char))
  deriving DecidableEq, Repr

/-- Reset (R240): load the control store, clear memory, load the image, set the latches and counters. R246 does not say
which of several errors is reported; the order here is a DESIGN CHOICE (log 17). -/
def boot (inp : LoadInputs) : Except LoadError State :=
  match inp.microcode, inp.image with
  | some lines, some text =>
    match loadControlStore lines, readWords text with
    | .error e, _ => .error e
    | .ok _, .error e => .error e
    | .ok store, .ok words =>
      match loadImage words with
      | .error e => .error e
      | .ok (base, mem) => .ok (State.afterLoad inp.memCycles inp.initialState store base mem)
  | _, _ => .error .unreadableFile

end Sys2Proof.Machine
end

