-- ==== Sys2Proof/Machine/Whole.lean ====
section
/-! DEFINITION. The clock cycle in one piece, field by field, as the pseudocode of the spec writes it
(40_sequencer.md R102, 41_memory_unit.md R128, 42_bus_drivers.md, 43_bus_arbiter.md R170, 44_latch_commit.md R197,
R201). It knows no micro-operations: it is the description that `step` is compared with in the obligations. -/

namespace Sys2Proof.Machine

/-- `NEXT_STATE` (R101, R102). -/
def wholeNextState (cw : ControlWord) (l : Latches) : MicroState :=
  let c1 := (cwCond cw).getLsbD 1
  let c0 := (cwCond cw).getLsbD 0
  let inj0 := c1 && c0 && l.ir.getLsbD 11
  let inj1 := !c1 && c0 && l.ready
  let inj2 := c1 && !c0 && l.ben
  if cwIrd cw then (irOpcode l.ir).zeroExtend 6
  else cwJ cw ||| (BitVec.ofBool inj2 ++ BitVec.ofBool inj1 ++ BitVec.ofBool inj0).zeroExtend 6

/-- `SR1_VAL` (R109, R110). -/
def wholeSr1 (cw : ControlWord) (l : Latches) : Word :=
  regRead l.regs (if cwSr1mux cw then irRegB l.ir else irRegA l.ir)

/-- `MDR_CAND` (R140, R141). -/
def wholeMdrCand (cw : ControlWord) (l : Latches) : Word :=
  if cwDataSize cw then l.mdr
  else if l.mar.getLsbD 0 then (l.mdr.extractLsb' 8 8).signExtend 16 else (l.mdr.extractLsb' 0 8).signExtend 16

/-- `ADDR2_OUT` (R143, R144). -/
def wholeAddr2 (cw : ControlWord) (l : Latches) : Word :=
  let a2 : Word :=
    if cwAddr2mux cw = 0#2 then 0#16
    else if cwAddr2mux cw = 1#2 then (irOff6 l.ir).signExtend 16
    else if cwAddr2mux cw = 2#2 then (irOff9 l.ir).signExtend 16
    else (irOff11 l.ir).signExtend 16
  if cwLshf1 cw then a2 <<< 1 else a2

/-- `ADDR_SUM` (R142, R145). -/
def wholeAddrSum (cw : ControlWord) (l : Latches) : Word :=
  (if cwAddr1mux cw then wholeSr1 cw l else l.pc) + wholeAddr2 cw l

/-- `MARMUX_OUT` (R146). -/
def wholeMarmux (cw : ControlWord) (l : Latches) : Word :=
  if cwMarmux cw then wholeAddrSum cw l else (irLow8 l.ir).zeroExtend 16 <<< 1

/-- `SR2_OUT` (R150). -/
def wholeSr2 (l : Latches) : Word :=
  if irBit5 l.ir then (irImm5 l.ir).signExtend 16 else regRead l.regs (irRegC l.ir)

/-- `ALU_OUT` (R151 to R154). -/
def wholeAlu (cw : ControlWord) (l : Latches) : Word :=
  if cwAluk cw = 0#2 then wholeSr1 cw l + wholeSr2 l
  else if cwAluk cw = 1#2 then wholeSr1 cw l &&& wholeSr2 l
  else if cwAluk cw = 2#2 then wholeSr1 cw l ^^^ wholeSr2 l
  else wholeSr1 cw l

/-- `SHF_OUT` (R156 to R158). -/
def wholeShf (cw : ControlWord) (l : Latches) : Word :=
  if !(irBit4 l.ir) then wholeSr1 cw l <<< (irAmount4 l.ir).toNat
  else if irBit5 l.ir then (wholeSr1 cw l).sshiftRight (irAmount4 l.ir).toNat
  else wholeSr1 cw l >>> (irAmount4 l.ir).toNat

/-- `DR_IDX` (R160). -/
def wholeDr (cw : ControlWord) (l : Latches) : RegIdx := if cwDrmux cw then 7#3 else irRegA l.ir

/-- `BUS` (R170, R171). -/
def wholeBus (cw : ControlWord) (l : Latches) : Word :=
  if cwGateMarmux cw then wholeMarmux cw l
  else if cwGatePc cw then l.pc
  else if cwGateAlu cw then wholeAlu cw l
  else if cwGateShf cw then wholeShf cw l
  else if cwGateMdr cw then wholeMdrCand cw l
  else 0#16

/-- A transfer happens in this cycle (R122). -/
def wholeTransfers (cw : ControlWord) (l : Latches) : Bool := cwMioEn cw && l.ready

/-- `MEM` after the memory unit (R128). -/
def wholeMem (cw : ControlWord) (l : Latches) (m : Memory) : Memory :=
  if wholeTransfers cw l && cwRW cw then
    if cwDataSize cw then memWriteWord m l.mar l.mdr
    else memWriteByte m l.mar (if l.mar.getLsbD 0 then l.mdr.extractLsb' 8 8 else l.mdr.extractLsb' 0 8)
  else m

/-- `memCounter` after the memory unit (R128). -/
def wholeCounter (cw : ControlWord) (l : Latches) (k : Nat) : Nat :=
  if cwMioEn cw then if l.ready then 0 else k + 1 else k

/-- `nxt.READY` after the memory unit (R128). -/
def wholeReady (cw : ControlWord) (l : Latches) (k memCycles : Nat) : Bool :=
  if cwMioEn cw then if l.ready then false else k + 1 == memCycles - 1 else l.ready

/-- `nxt.MDR` (R182 to R185). -/
def wholeMdr (cw : ControlWord) (l : Latches) (m : Memory) : Word :=
  if cwLdMdr cw then
    if cwMioEn cw then if l.ready && !(cwRW cw) then memReadWord m l.mar else l.mdr
    else if !(cwDataSize cw) && l.mar.getLsbD 0 then
      (wholeBus cw l).extractLsb' 0 8 ++ (wholeBus cw l).extractLsb' 0 8
    else wholeBus cw l
  else l.mdr

/-- A wait cycle of a memory read that asserts `LD_MDR`: what `MDR` holds then is not settled by the source
(93_implementation_defined.md U3, log 12). -/
def waitsForMdr (cw : ControlWord) (l : Latches) : Bool := cwLdMdr cw && cwMioEn cw && !(cwRW cw) && !l.ready

/-- A state with both copies of `MDR` at 0: what is left to say of a state when nothing may be said of `MDR` (U3). -/
def State.forgetMdr (s : State) : State :=
  { s with cur := { s.cur with mdr := 0#16 }, nxt := { s.nxt with mdr := 0#16 } }

/-- `nxt.PC` of a well-formed control word (R190 to R193). -/
def wholePc (cw : ControlWord) (l : Latches) : Word :=
  if cwLdPc cw then
    if cwPcmux cw = 0#2 then l.pc + 2#16 else if cwPcmux cw = 1#2 then wholeBus cw l else wholeAddrSum cw l
  else l.pc

/-- The latch set after the cycle (R197, R108). -/
def wholeLatches (s : State) : Latches :=
  let cw := s.cur.microinstruction
  let bus := wholeBus cw s.cur
  { pc := wholePc cw s.cur
    ir := if cwLdIr cw then bus else s.cur.ir
    mar := if cwLdMar cw then bus else s.cur.mar
    mdr := wholeMdr cw s.cur s.mem
    n := if cwLdCc cw then decide (bus.toInt < 0) else s.cur.n
    z := if cwLdCc cw then decide (bus.toInt = 0) else s.cur.z
    p := if cwLdCc cw then decide (0 < bus.toInt) else s.cur.p
    ben := if cwLdBen cw then
        (s.cur.ir.getLsbD 11 && s.cur.n) || (s.cur.ir.getLsbD 10 && s.cur.z) || (s.cur.ir.getLsbD 9 && s.cur.p)
      else s.cur.ben
    ready := wholeReady cw s.cur s.memCounter s.memCycles
    regs := if cwLdReg cw then s.cur.regs.set (wholeDr cw s.cur).toNat bus else s.cur.regs
    microinstruction := s.controlStore[(wholeNextState cw s.cur).toNat]
    stateNumber := wholeNextState cw s.cur }

/-- The cycle of R201 in one piece; an ill-formed control word faults after the memory unit has acted (R194, R213). -/
def wholeCycle (s : State) : Host.Outcome State Fault Refusal :=
  let cw := s.cur.microinstruction
  let written : State :=
    { s with mem := wholeMem cw s.cur s.mem, memCounter := wholeCounter cw s.cur s.memCounter, nets := Nets.idle }
  if cwIllFormed cw then .fault (.illFormedControlWord cw s.cur.stateNumber { written with nxt := s.cur })
  else
    .next { written with
      cur := wholeLatches s
      nxt := wholeLatches s
      lastBus := wholeBus cw s.cur
      cycleCount := s.cycleCount + 1 }

end Sys2Proof.Machine
end

