-- ==== Sys2Proof/Machine/HostOps.lean ====
section
/-! DEFINITION. The host's operations (60_exceptions.md R226 to R231). They read a state and answer; printing is out
of scope (00_scope.md R4). -/

namespace Sys2Proof.Machine

/-- How a host call ends (R231), and the refusal of a call on a halted machine (R226). -/
inductive RunEnd where
  /-- `cur.PC = 0` was seen before a cycle; `halted` is 1. -/
  | halted (s : State)
  /-- A cycle faulted; the fault holds the state the run ends in. -/
  | faulted (f : Fault)
  /-- The call returned, or the fuel ran out, before a halt test saw `cur.PC = 0`: `halted` is still 0. `PC` itself may
  be 0 by then (DESIGN CHOICE, log 27). -/
  | notEnded (s : State)
  /-- Nothing ran (R227, R228). -/
  | refused (r : Refusal)
  deriving DecidableEq, Repr

/-- Up to `n` rounds of the halt test and a cycle (R227). The loop ends after `n` rounds without one more test, so a
call whose last cycle left `PC = 0`, and a call with `n = 0` at `PC = 0`, answer `notEnded` with `halted` still 0: R231
names neither outcome for it. DESIGN CHOICE, unsafe, log 27. -/
def runLoop (n : Nat) (s : State) : RunEnd :=
  match n with
  | 0 => .notEnded s
  | k + 1 =>
    if s.cur.pc = 0#16 then .halted s.halt
    else
      match runCycle s with
      | .next t => runLoop k t
      | .fault f => .faulted f
      | .refused r => .refused r

/-- `step(n)` (R227). -/
def hostStep (n : Nat) (s : State) : RunEnd := if s.halted then .refused .alreadyHalted else runLoop n s

/-- `runToHalt()` (R228), under fuel: the number of halt tests it may make. A run that exhausts the fuel has no
result (U11, log 21). -/
def runToHalt (fuel : Nat) (s : State) : RunEnd := if s.halted then .refused .alreadyHalted else runLoop fuel s

/-- `dumpMemoryRange(lowAddr, highAddr)`: the bytes of the closed range, or a refusal of a range outside the
address space or out of order (R229). -/
def dumpMemoryRange (s : State) (lowAddr highAddr : Nat) : Option (List Byte) :=
  if lowAddr ≤ highAddr ∧ highAddr < Config.addressCount then
    some ((List.range (highAddr - lowAddr + 1)).map fun k => s.mem.read (lowAddr + k))
  else none

/-- What `dumpRegistersAndBus()` reports: R226's list, and `halted`, which R40 counts among the outputs that the host
sees through the dumps (DEDUCED, log 22). -/
structure RegisterDump where
  /-- `cur`, all of R20. -/
  latches : Latches
  /-- `lastBus` (R35). -/
  lastBus : Word
  /-- `cycleCount` (R34). -/
  cycleCount : Nat
  /-- `halted` (R36, R40). -/
  halted : Bool
  deriving DecidableEq, Repr

/-- `dumpRegistersAndBus()` (R226, R40). -/
def dumpRegistersAndBus (s : State) : RegisterDump :=
  { latches := s.cur, lastBus := s.lastBus, cycleCount := s.cycleCount, halted := s.halted }

end Sys2Proof.Machine
end

