-- ==== Sys2Proof/Safety.lean ====
section
/-! DEFINITION. What counts as a sound boundary state and as a safe run, in the words the obligations use. -/

namespace Sys2Proof.Machine

/-- The invariants of a cycle boundary that the spec names (R31, R37, R41, R42, R132, D11), with the model's own: the
nets are idle and memory is in its canonical form. -/
structure BoundaryInv (s : State) : Prop where
  /-- R37: `nxt` equals `cur`. -/
  staged : s.nxt = s.cur
  /-- R39: nets live for one cycle (log 9). -/
  netsIdle : s.nets = Nets.idle
  /-- R41: the active control word is the row of the state number. -/
  fetched : s.cur.microinstruction = s.controlStore[s.cur.stateNumber.toNat]
  /-- R42: exactly one of `N`, `Z`, `P` is 1. -/
  oneFlag : (s.cur.n, s.cur.z, s.cur.p) ∈ [(true, false, false), (false, true, false), (false, false, true)]
  /-- R121, D11: the latency is at least 2. -/
  latency : 2 ≤ s.memCycles
  /-- R132: the counter's range. -/
  counter : s.memCounter ≤ s.memCycles - 1
  /-- R132: `READY` is 1 exactly at the end of the count. -/
  ready : s.cur.ready = (s.memCounter == s.memCycles - 1)
  /-- The canonical form of memory (log 16). -/
  memory : s.mem.wf = true
  /-- R36, R248: a halted machine has `PC = 0`. -/
  haltedAtZero : s.halted = true → s.cur.pc = 0#16

/-- No row of the control store is ill-formed (R77). -/
def StoreWellFormed (store : Vector ControlWord 64) : Prop := ∀ k : MicroState, cwIllFormed (controlRow store k) = false

/-- A run of any length from `s` never faults. -/
def RunsWithoutFault (s : State) : Prop :=
  ∀ (k : Nat) (f : Fault), Sys2Proof.core.run k s ≠ Host.Outcome.fault f

/-- The machine is about to run a cycle: not halted and `PC` not 0 (R216). -/
def Running (s : State) : Prop := s.halted = false ∧ s.cur.pc ≠ 0#16

end Sys2Proof.Machine
end

