-- ==== Sys2Proof/Certificates/Slice0/Obligations.lean ====
section
/-! DEFINITION. The statements for the provers, each a `def Obligations.<Name> : Prop`. They say what the numbered
rules of the spec say; OBLIGATIONS.json names the rules. A micro-operation's statement gives the WHOLE next state, so
it is also its frame: every latch, net, register, counter and byte that the record update does not name is unchanged. -/

open Sys2Proof Sys2Proof.Machine

/-! ## Encoding -/

/-- The decoder and the table agree in both directions: an instruction is among the micro-operations of a control word
and an `IR` value exactly when its table row's mask and match (with its operand's bits) fit them, and every instruction
is read back from its own encoding. -/
def Obligations.MicroOpsAreExactlyTheMatchingRows : Prop :=
  (∀ (i : Instr) (cw : ControlWord) (ir : Word), i ∈ microOps cw ir ↔ (pattern i).fits cw ir = true) ∧
  (∀ i : Instr, i ∈ microOps (encodeCw i) (encodeIr i))

/-- No two rows of one field apply at once: decoding is unambiguous. -/
def Obligations.RowsOfOneFieldExcludeEachOther : Prop :=
  ∀ (i j : Instr) (cw : ControlWord) (ir : Word),
    slotOf i = slotOf j → (pattern i).fits cw ir = true → (pattern j).fits cw ir = true → i = j

/-- Words written out bit by bit from R70 decode to the rows they stand for: the row of state 33 in R81's example, and
one word for each unit. -/
def Obligations.WrittenOutWordsDecode : Prop :=
  decodeRow "00110000101000000000000000000001010".toList = some 0b00110000101000000000000000000001010#35 ∧
  microOps 0b00110000101000000000000000000001010#35 0#16 =
    [.seqJOrReady 33#6, .irDispatch 0#4, .irCondBit11 false, .sr1muxIr11To9, .memRead, .mdrCandWord, .addr1muxPc,
      .addr2muxZero, .marmuxTrapvect, .irSr2Reg 0#3, .aluAdd, .irShfLshf 0#4, .drmuxIr11To9, .busNone, .ldMdrMem,
      .irBenNzp false false false] ∧
  seqOf 0b10000000000010000000000000000000000#35 = .seqDispatch ∧
  memOf 0b00101000100000000000000000000001100#35 = .memWriteByte ∧
  addr2Of 0b00001001000000010000010000100000001#35 = .addr2muxOff9 ∧
  busOf 0b00001001000001100000100010000000000#35 = .gateShf ∧
  ldPcOf 0b00001001000000010100001000000000010#35 = some .ldPcBus ∧
  irShfOf 0b1101011010110010#16 = .irShfRshfa 2#4

/-- R71, R244: a control-store row is accepted exactly when its first 35 characters are each 0 or 1; the characters
after the 35th are ignored and draw a warning; a bad row among the first 64, or fewer than 64 rows, is a fatal load
error, and 64 accepted rows load. The 64-row minimum is the spec's decision D22. The model's own choices (DESIGN CHOICE,
log 17): 64 OR MORE lines load when the first 64 are good, so a 65th line is accepted, ignored and draws no warning; and
too few rows is reported before a bad row. -/
def Obligations.ControlStoreRowAcceptance : Prop :=
  (∀ line : List Char, (decodeRow line).isSome = true ↔ 35 ≤ line.length ∧ ∀ c ∈ line.take 35, c = '0' ∨ c = '1') ∧
  (∀ line : List Char, decodeRow line = decodeRow (line.take 35)) ∧
  (∀ lines : List (List Char), lines.length < 64 → loadControlStore lines = .error (.tooFewRows lines.length)) ∧
  (∀ (lines : List (List Char)) (k : Nat) (line : List Char), 64 ≤ lines.length → k < 64 → lines[k]? = some line →
    decodeRow line = none → ∃ j, loadControlStore lines = .error (.malformedRow j) ∧ j ≤ k) ∧
  (∀ lines : List (List Char), 64 ≤ lines.length → (∀ line ∈ lines.take 64, (decodeRow line).isSome = true) →
    ∃ store, loadControlStore lines = .ok store) ∧
  (∀ (lines : List (List Char)) (k : Nat),
    k ∈ rowWarnings lines ↔ k < 64 ∧ ∃ line, lines[k]? = some line ∧ 35 < line.length)

/-- R71, R243: line k is `CONTROL_STORE[k]`, and character i of a line is bit 34 - i of its control word. -/
def Obligations.ControlStoreLinesBecomeRows : Prop :=
  ∀ (lines : List (List Char)) (store : Vector ControlWord 64), loadControlStore lines = .ok store →
    ∀ (k : Nat) (hk : k < 64) (text : List Char), lines[k]? = some text →
      ∀ i : Nat, i < 35 → (store[k].getLsbD (34 - i) = true ↔ text[i]? = some '1')

/-! ## One step -/

/-- A step at a running state runs, in unit order (R199), every micro-operation that the active control word and `IR`
decode to, from `nxt <- cur`, and then swaps (R200), a fault ending it without the swap (R213). That a cycle runs row by
row is the model's choice (DESIGN CHOICE, log 1). The second clause is about the model's own device: a word placed by
`withFetchWord` becomes the active control word and the row of the current state number, every other latch, the memory
and `memCounter` being unchanged, and a running machine still runs. No rule gives the block such an operation (R230
gives the host none); it stands for the load of one row (DESIGN CHOICE, unsafe, log 4). -/
def Obligations.StepRunsTheDecodedMicroOps : Prop :=
  (∀ s : State, Running s →
    (∀ t, runOps (microOps s.cur.microinstruction s.cur.ir) s.beginCycle = .next t → step s = .next t.swap) ∧
    (∀ f, runOps (microOps s.cur.microinstruction s.cur.ir) s.beginCycle = .fault f → step s = .fault f)) ∧
  (∀ (s : State) (w : Nat), w < 2 ^ 35 →
    (s.withFetchWord 40 w).cur = { s.cur with microinstruction := BitVec.ofNat 35 w } ∧
    controlRow (s.withFetchWord 40 w).controlStore s.cur.stateNumber = BitVec.ofNat 35 w ∧
    (s.withFetchWord 40 w).mem = s.mem ∧ (s.withFetchWord 40 w).memCounter = s.memCounter ∧
    (Running s → Running (s.withFetchWord 40 w)))

/-- HEADLINE. Running the decoded micro-operations one after another is the clock cycle of R201 written in one piece,
for every control word, every state and every latency, the fault included. In a wait cycle of a read with `LD_MDR` the
two agree in everything but `MDR`, of which nothing is said (93_implementation_defined.md U3, log 12). -/
def Obligations.StepIsTheCycleInOnePiece : Prop :=
  ∀ s : State, Running s →
    (waitsForMdr s.cur.microinstruction s.cur = false → step s = wholeCycle s) ∧
    (waitsForMdr s.cur.microinstruction s.cur = true →
      (∀ t, step s = .next t → ∃ u, wholeCycle s = .next u ∧ t.forgetMdr = u.forgetMdr) ∧
      (∀ u, wholeCycle s = .next u → ∃ t, step s = .next t ∧ t.forgetMdr = u.forgetMdr) ∧
      (∀ f, step s = .fault f ↔ wholeCycle s = .fault f))

/-- HEADLINE. Every step keeps the boundary invariant: `nxt = cur` (R37), the active control word is the row of the
state number (R41), exactly one condition flag is set (R42), the latency counter and `READY` agree (R132), memory is
canonical, and a halted machine has `PC = 0`. -/
def Obligations.EveryStepKeepsTheBoundaryInvariant : Prop :=
  ∀ s t : State, BoundaryInv s → step s = .next t → BoundaryInv t

/-- The state after every successful load has the boundary invariant, and so has `State.reset`. The values that
`State.reset` takes for the parameters are the model's choice (logs 4 to 7). -/
def Obligations.LoadAndResetEstablishTheBoundaryInvariant : Prop :=
  BoundaryInv State.reset ∧
  ∀ (inp : LoadInputs) (s : State), boot inp = .ok s → 2 ≤ inp.memCycles → BoundaryInv s

/-- R44, R242, R245: what reset leaves, field by field, with the image in memory word by word and every other byte 0. -/
def Obligations.LoadedStateFieldByField : Prop :=
  ∀ (inp : LoadInputs) (s : State), boot inp = .ok s →
    ∃ (lines text : List (List Char)) (store : Vector ControlWord 64) (base : Word) (ws : List Word),
      inp.microcode = some lines ∧ inp.image = some text ∧ loadControlStore lines = .ok store ∧
      readWords text = .ok (base :: ws) ∧
      s.cur.pc = base &&& 0xFFFE#16 ∧ s.cur.ir = 0#16 ∧ s.cur.mar = 0#16 ∧ s.cur.mdr = 0#16 ∧
      s.cur.n = false ∧ s.cur.z = true ∧ s.cur.p = false ∧ s.cur.ben = false ∧ s.cur.ready = false ∧
      (∀ i : RegIdx, regRead s.cur.regs i = 0#16) ∧ s.cur.stateNumber = inp.initialState ∧
      s.cur.microinstruction = controlRow store inp.initialState ∧ s.nxt = s.cur ∧ s.controlStore = store ∧
      s.memCounter = 0 ∧ s.cycleCount = 0 ∧ s.lastBus = 0#16 ∧ s.halted = false ∧ s.memCycles = inp.memCycles ∧
      (∀ (k : Nat) (w : Word), ws[k]? = some w →
        memReadWord s.mem (BitVec.ofNat 16 ((base &&& 0xFFFE#16).toNat + 2 * k)) = w) ∧
      (∀ a : Nat, a < (base &&& 0xFFFE#16).toNat ∨ (base &&& 0xFFFE#16).toNat + 2 * ws.length ≤ a → s.mem.read a = 0#8)

/-- R246: the image that is refused for its size is the one whose last word would pass address 0xFFFF; an image with no
base word is refused too; every other image loads. -/
def Obligations.ImageSizeTest : Prop :=
  loadImage [] = .error .emptyProgram ∧
  ∀ (base : Word) (ws : List Word),
    (0x10000 < (base.toNat / 2) * 2 + 2 * ws.length → loadImage (base :: ws) = .error .programTooLarge) ∧
    ((base.toNat / 2) * 2 + 2 * ws.length ≤ 0x10000 → ∃ m, loadImage (base :: ws) = .ok (base, m) ∧ m.wf = true)

/-! ## Halt, host operations and faults -/

/-- R248: before each cycle the run examines `cur.PC`; at 0 it sets `halted` and executes no cycle, and after that
every call refuses. -/
def Obligations.HaltTestRunsNoFurtherCycle : Prop :=
  ∀ (s : State) (k : Nat),
    (s.halted = false → s.cur.pc = 0#16 →
      step s = .next { s with halted := true } ∧ hostStep (k + 1) s = .halted { s with halted := true } ∧
      runToHalt (k + 1) s = .halted { s with halted := true }) ∧
    (s.halted = true →
      step s = .refused .alreadyHalted ∧ hostStep k s = .refused .alreadyHalted ∧
      runToHalt k s = .refused .alreadyHalted)

/-- R227, R228, R231: how a host call ends. Not ended: exactly `n` cycles were completed (that the call is then `notEnded`
also where `PC` is 0 by its end is the model's choice, DESIGN CHOICE, log 27). Halted: at most `n` cycles
were completed, `PC` is 0 and `halted` is 1. Faulted: the fault is the ill-formed control word's. -/
def Obligations.HostCallEndsOneOfThreeWays : Prop :=
  ∀ (n : Nat) (s : State), s.halted = false →
    (∀ t, hostStep n s = .notEnded t →
      t.cycleCount = s.cycleCount + n ∧ t.halted = false ∧ Sys2Proof.core.run n s = Host.Outcome.next t) ∧
    (∀ t, hostStep n s = .halted t →
      t.cycleCount < s.cycleCount + n ∧ t.cur.pc = 0#16 ∧ t.halted = true) ∧
    (∀ f, hostStep n s = .faulted f → ∃ cw k left, f = .illFormedControlWord cw k left ∧ cwIllFormed cw = true) ∧
    (∀ r, hostStep n s ≠ .refused r)

/-- R249: `PC + 2` from 0xFFFE reaches 0, and the next step halts without a cycle. -/
def Obligations.PcWrapAroundHalts : Prop :=
  ∀ s t : State, Running s → cwLdPc s.cur.microinstruction = true → cwPcmux s.cur.microinstruction = 0#2 →
    s.cur.pc = 0xFFFE#16 → step s = .next t → t.cur.pc = 0#16 ∧ step t = .next { t with halted := true }

/-- R194, R213: a running machine whose control word has `LD_PC = 1` and `PCMUX = 11` faults; the fault records the
control word and the state number, the state it leaves has `cur`, `lastBus` and `cycleCount` unchanged and nothing
staged, and a write that the memory unit made in the cycle stands. -/
def Obligations.IllFormedWordFaultsAndMemoryWritesStand : Prop :=
  ∀ s : State, Running s → cwLdPc s.cur.microinstruction = true → cwPcmux s.cur.microinstruction = 3#2 →
    ∃ left, step s = .fault (.illFormedControlWord s.cur.microinstruction s.cur.stateNumber left) ∧
      left.cur = s.cur ∧ left.nxt = s.cur ∧ left.lastBus = s.lastBus ∧ left.cycleCount = s.cycleCount ∧
      left.controlStore = s.controlStore ∧ left.halted = false ∧ left.memCycles = s.memCycles ∧
      (cwMioEn s.cur.microinstruction = false → left.mem = s.mem ∧ left.memCounter = s.memCounter) ∧
      (cwMioEn s.cur.microinstruction = true → s.cur.ready = false →
        left.mem = s.mem ∧ left.memCounter = s.memCounter + 1) ∧
      (cwMioEn s.cur.microinstruction = true → s.cur.ready = true → left.memCounter = 0 ∧
        (cwRW s.cur.microinstruction = false → left.mem = s.mem) ∧
        (cwRW s.cur.microinstruction = true → cwDataSize s.cur.microinstruction = true →
          left.mem = memWriteWord s.mem s.cur.mar s.cur.mdr) ∧
        (cwRW s.cur.microinstruction = true → cwDataSize s.cur.microinstruction = false →
          left.mem = memWriteByte s.mem s.cur.mar (storeByte s.cur.mar s.cur.mdr)))

/-- R214: a step faults only on an ill-formed control word; the other two reasons of the closed list are never raised,
and no step of a machine that has not halted is refused. -/
def Obligations.OnlyTheIllFormedWordFaults : Prop :=
  ∀ s : State,
    (∀ f, step s = .fault f → Running s ∧ cwIllFormed s.cur.microinstruction = true ∧
      ∃ left, f = .illFormedControlWord s.cur.microinstruction s.cur.stateNumber left) ∧
    (∀ r, step s = .refused r → s.halted = true ∧ r = .alreadyHalted)

/-- HEADLINE. With a control store that holds no ill-formed row, no run of any length faults. -/
def Obligations.WellFormedStoreRunsWithoutFault : Prop :=
  ∀ s : State, BoundaryInv s → StoreWellFormed s.controlStore → RunsWithoutFault s

/-- R78, R77: every micro-operation but the reserved one completes in every state, and the reserved one never does. -/
def Obligations.EveryWellFormedOpCompletes : Prop :=
  ∀ (i : Instr) (s : State),
    (i.wellFormed = true → ∃ t, exec i s = .next t) ∧
    (i.wellFormed = false → ∃ f, exec i s = .fault f)

/-- R38: no micro-operation changes the current latches, the control store, the latency, `cycleCount`, `lastBus` or
`halted`; and only the memory timing unit's rows change `MEM`, `memCounter` or the staged `READY`. -/
def Obligations.OpsWriteOnlyStagedState : Prop :=
  ∀ (i : Instr) (s t : State), exec i s = .next t →
    t.cur = s.cur ∧ t.controlStore = s.controlStore ∧ t.memCycles = s.memCycles ∧ t.cycleCount = s.cycleCount ∧
    t.lastBus = s.lastBus ∧ t.halted = s.halted ∧
    (slotOf i ≠ .mem → t.mem = s.mem ∧ t.memCounter = s.memCounter ∧ t.nxt.ready = s.nxt.ready)

/-- R31: the control store (and the latency parameter) is the same after every step, and so after a run of any
length. -/
def Obligations.ControlStoreIsReadOnly : Prop :=
  ∀ (k : Nat) (s t : State), Sys2Proof.core.run k s = Host.Outcome.next t →
    t.controlStore = s.controlStore ∧ t.memCycles = s.memCycles

/-! ## What a completed cycle leaves, rule by rule -/

/-- R112 with R108: the next-address mux as a truth table, and the fetch of the row it names. -/
def Obligations.NextAddressTruthTable : Prop :=
  ∀ s t : State, Running s → step s = .next t →
    (cwIrd s.cur.microinstruction = true → t.cur.stateNumber.toNat = s.cur.ir.toNat / 4096) ∧
    (cwIrd s.cur.microinstruction = false → cwCond s.cur.microinstruction = 0#2 →
      t.cur.stateNumber = cwJ s.cur.microinstruction) ∧
    (cwIrd s.cur.microinstruction = false → cwCond s.cur.microinstruction = 1#2 →
      t.cur.stateNumber = if s.cur.ready then cwJ s.cur.microinstruction ||| 0b000010#6
        else cwJ s.cur.microinstruction) ∧
    (cwIrd s.cur.microinstruction = false → cwCond s.cur.microinstruction = 2#2 →
      t.cur.stateNumber = if s.cur.ben then cwJ s.cur.microinstruction ||| 0b000100#6
        else cwJ s.cur.microinstruction) ∧
    (cwIrd s.cur.microinstruction = false → cwCond s.cur.microinstruction = 3#2 →
      t.cur.stateNumber = if s.cur.ir.getLsbD 11 then cwJ s.cur.microinstruction ||| 0b000001#6
        else cwJ s.cur.microinstruction) ∧
    t.cur.microinstruction = controlRow s.controlStore t.cur.stateNumber

/-- R196: a latch whose load enable is 0 keeps its value, and no row of the latch commit writes `READY`, `STATE_NUMBER`
or `MICROINSTRUCTION`. R120: `READY` keeps its value when `MIO_EN` is 0, which is the spec's decision D12 (PRESUMED,
log 19). -/
def Obligations.UnloadedLatchesHold : Prop :=
  (∀ (i : Instr) (s t : State),
    slotOf i ∈ [Slot.ldMar, .ldIr, .ldMdr, .ldBen, .irBen, .ldReg, .ldPc, .ldCc] → exec i s = .next t →
    t.nxt.ready = s.nxt.ready ∧ t.nxt.stateNumber = s.nxt.stateNumber ∧
    t.nxt.microinstruction = s.nxt.microinstruction) ∧
  ∀ s t : State, Running s → step s = .next t →
    (cwLdMar s.cur.microinstruction = false → t.cur.mar = s.cur.mar) ∧
    (cwLdIr s.cur.microinstruction = false → t.cur.ir = s.cur.ir) ∧
    (cwLdMdr s.cur.microinstruction = false → t.cur.mdr = s.cur.mdr) ∧
    (cwLdBen s.cur.microinstruction = false → t.cur.ben = s.cur.ben) ∧
    (cwLdReg s.cur.microinstruction = false → t.cur.regs = s.cur.regs) ∧
    (cwLdPc s.cur.microinstruction = false → t.cur.pc = s.cur.pc) ∧
    (cwLdCc s.cur.microinstruction = false → t.cur.n = s.cur.n ∧ t.cur.z = s.cur.z ∧ t.cur.p = s.cur.p) ∧
    (cwMioEn s.cur.microinstruction = false → t.cur.ready = s.cur.ready)

/-- R180, R181, R189, R195: what the bus of the cycle (recorded in `lastBus`, R173) is loaded into: `MAR`, `IR`, the
register `DR_IDX` alone among the eight, and the flags by its sign. -/
def Obligations.LoadEnablesTakeTheBus : Prop :=
  ∀ s t : State, Running s → step s = .next t →
    (cwLdMar s.cur.microinstruction = true → t.cur.mar = t.lastBus) ∧
    (cwLdIr s.cur.microinstruction = true → t.cur.ir = t.lastBus) ∧
    (cwLdReg s.cur.microinstruction = true → ∀ k : RegIdx,
      regRead t.cur.regs k =
        if k = (if cwDrmux s.cur.microinstruction then 7#3 else irRegA s.cur.ir) then t.lastBus
        else regRead s.cur.regs k) ∧
    (cwLdCc s.cur.microinstruction = true →
      (t.cur.n = true ↔ t.lastBus.toInt < 0) ∧ (t.cur.z = true ↔ t.lastBus.toInt = 0) ∧
      (t.cur.p = true ↔ 0 < t.lastBus.toInt))

/-- R170, R171, R172: the bus carries the first asserted gate's candidate in the order MARMUX, PC, ALU, SHF, MDR,
and 0 with no gate; it is recorded in `lastBus` (R173) and one cycle is counted (R200). -/
def Obligations.BusPriority : Prop :=
  ∀ s t : State, Running s → step s = .next t →
    (cwGateMarmux s.cur.microinstruction = true → t.lastBus = wholeMarmux s.cur.microinstruction s.cur) ∧
    (cwGateMarmux s.cur.microinstruction = false → cwGatePc s.cur.microinstruction = true →
      t.lastBus = s.cur.pc) ∧
    (cwGateMarmux s.cur.microinstruction = false → cwGatePc s.cur.microinstruction = false →
      cwGateAlu s.cur.microinstruction = true → t.lastBus = wholeAlu s.cur.microinstruction s.cur) ∧
    (cwGateMarmux s.cur.microinstruction = false → cwGatePc s.cur.microinstruction = false →
      cwGateAlu s.cur.microinstruction = false → cwGateShf s.cur.microinstruction = true →
      t.lastBus = wholeShf s.cur.microinstruction s.cur) ∧
    (cwGateMarmux s.cur.microinstruction = false → cwGatePc s.cur.microinstruction = false →
      cwGateAlu s.cur.microinstruction = false → cwGateShf s.cur.microinstruction = false →
      cwGateMdr s.cur.microinstruction = true → t.lastBus = wholeMdrCand s.cur.microinstruction s.cur) ∧
    (cwGateMarmux s.cur.microinstruction = false → cwGatePc s.cur.microinstruction = false →
      cwGateAlu s.cur.microinstruction = false → cwGateShf s.cur.microinstruction = false →
      cwGateMdr s.cur.microinstruction = false → t.lastBus = 0#16) ∧
    t.cycleCount = s.cycleCount + 1

/-- R191, R192, R193: the three sources of `PC` under `LD_PC`; no alignment is applied. -/
def Obligations.PcSources : Prop :=
  ∀ s t : State, Running s → step s = .next t → cwLdPc s.cur.microinstruction = true →
    (cwPcmux s.cur.microinstruction = 0#2 → t.cur.pc.toNat = (s.cur.pc.toNat + 2) % 65536) ∧
    (cwPcmux s.cur.microinstruction = 1#2 → t.cur.pc = t.lastBus) ∧
    (cwPcmux s.cur.microinstruction = 2#2 →
      t.cur.pc.toNat = ((if cwAddr1mux s.cur.microinstruction then wholeSr1 s.cur.microinstruction s.cur
          else s.cur.pc).toNat + (wholeAddr2 s.cur.microinstruction s.cur).toNat) % 65536)

/-- R186, R187: `BEN` is computed from the current `IR` and the current flags, also when the same cycle loads `IR` or
the flags; `IR[11:9] = 000` clears it, and `IR[11:9] = 111` sets it where one flag is set. -/
def Obligations.BranchEnableFromCurrentFlags : Prop :=
  ∀ s t : State, Running s → step s = .next t → cwLdBen s.cur.microinstruction = true →
    t.cur.ben = ((s.cur.ir.getLsbD 11 && s.cur.n) || (s.cur.ir.getLsbD 10 && s.cur.z) ||
      (s.cur.ir.getLsbD 9 && s.cur.p)) ∧
    (irRegA s.cur.ir = 0#3 → t.cur.ben = false) ∧
    (irRegA s.cur.ir = 7#3 → BoundaryInv s → t.cur.ben = true)

/-- R174, R252, R110: within a cycle every unit sees the old values. A row with `GATE_PC`, `LD_REG`, `DRMUX = 1` and
`PC` from `SR1_VAL` (a jump to a register with link) jumps to the OLD register and links the OLD `PC`, even where the
register is R7. -/
def Obligations.LinkAndJumpUseOldValues : Prop :=
  ∀ s t : State, Running s → step s = .next t →
    cwGateMarmux s.cur.microinstruction = false → cwGatePc s.cur.microinstruction = true →
    cwLdReg s.cur.microinstruction = true → cwDrmux s.cur.microinstruction = true →
    cwLdPc s.cur.microinstruction = true → cwPcmux s.cur.microinstruction = 2#2 →
    cwAddr1mux s.cur.microinstruction = true → cwAddr2mux s.cur.microinstruction = 0#2 →
    t.cur.pc = regRead s.cur.regs (if cwSr1mux s.cur.microinstruction then irRegB s.cur.ir else irRegA s.cur.ir) ∧
    regRead t.cur.regs 7#3 = s.cur.pc

/-! ## Memory -/

/-- R52, R53: a word written is read back at either address of its pair, whatever address bit 0 is; its low byte lies at
the even address and its high byte at the odd one; every other byte of memory is unchanged. -/
def Obligations.WordWriteRoundTrip : Prop :=
  ∀ (m : Memory) (a b v : Word), m.wf = true →
    (a.toNat / 2 = b.toNat / 2 → memReadWord (memWriteWord m a v) b = v) ∧
    ((memWriteWord m a v).read (a.toNat / 2 * 2)).toNat = v.toNat % 256 ∧
    ((memWriteWord m a v).read (a.toNat / 2 * 2 + 1)).toNat = v.toNat / 256 ∧
    (∀ k : Nat, k / 2 ≠ a.toNat / 2 → (memWriteWord m a v).read k = m.read k)

/-- R51, R54: a byte write changes exactly the byte its address names; the other byte of the pair, and all other
memory, is preserved. -/
def Obligations.ByteWriteKeepsTheOtherByte : Prop :=
  ∀ (m : Memory) (a : Word) (b : Byte), m.wf = true →
    (memWriteByte m a b).read a.toNat = b ∧ (∀ k : Nat, k ≠ a.toNat → (memWriteByte m a b).read k = m.read k)

/-- The canonical form: two canonical memories that read the same at every address are the same data (the model's own
form of `MEM`, log 16). -/
def Obligations.EqualReadsAreEqualMemories : Prop :=
  ∀ m₁ m₂ : Memory, m₁.wf = true → m₂.wf = true → (∀ a : Nat, m₁.read a = m₂.read a) → m₁ = m₂

/-- R120 to R127 at the level of a cycle: `MIO_EN = 0` leaves the counter and `READY` alone; a counting cycle adds one
and sets `READY` exactly when the counter reaches `MEM_CYCLES - 1`; a transfer cycle clears both. -/
def Obligations.LatencyCounterAndReady : Prop :=
  ∀ s t : State, BoundaryInv s → Running s → step s = .next t →
    (cwMioEn s.cur.microinstruction = false → t.memCounter = s.memCounter ∧ t.cur.ready = s.cur.ready) ∧
    (cwMioEn s.cur.microinstruction = true → s.cur.ready = false →
      t.memCounter = s.memCounter + 1 ∧ (t.cur.ready = true ↔ s.memCounter + 1 = s.memCycles - 1)) ∧
    (cwMioEn s.cur.microinstruction = true → s.cur.ready = true → t.memCounter = 0 ∧ t.cur.ready = false)

/-- R124, R125, R126 and the frame of memory: byte by byte, memory after a completed cycle differs from memory before
it only where a write transfer at `cur.MAR` says so. -/
def Obligations.MemoryChangesOnlyByAWriteTransfer : Prop :=
  ∀ s t : State, s.mem.wf = true → Running s → step s = .next t →
    ((cwMioEn s.cur.microinstruction && s.cur.ready && cwRW s.cur.microinstruction) = false → t.mem = s.mem) ∧
    ((cwMioEn s.cur.microinstruction && s.cur.ready && cwRW s.cur.microinstruction) = true →
      cwDataSize s.cur.microinstruction = true →
      (t.mem.read (pairLow s.cur.mar)).toNat = s.cur.mdr.toNat % 256 ∧
      (t.mem.read (pairHigh s.cur.mar)).toNat = s.cur.mdr.toNat / 256 ∧
      ∀ k, k ≠ pairLow s.cur.mar → k ≠ pairHigh s.cur.mar → t.mem.read k = s.mem.read k) ∧
    ((cwMioEn s.cur.microinstruction && s.cur.ready && cwRW s.cur.microinstruction) = true →
      cwDataSize s.cur.microinstruction = false →
      (t.mem.read s.cur.mar.toNat).toNat =
        (if s.cur.mar.getLsbD 0 then s.cur.mdr.toNat / 256 else s.cur.mdr.toNat % 256) ∧
      ∀ k, k ≠ s.cur.mar.toNat → t.mem.read k = s.mem.read k)

/-- R124, R183: in the cycle in which a read completes, `LD_MDR` loads the word at `cur.MAR`, low byte from the even
address. -/
def Obligations.ReadTransferLoadsMdr : Prop :=
  ∀ s t : State, Running s → step s = .next t →
    cwLdMdr s.cur.microinstruction = true → cwMioEn s.cur.microinstruction = true →
    cwRW s.cur.microinstruction = false → s.cur.ready = true →
    t.cur.mdr.toNat = (s.mem.read (pairHigh s.cur.mar)).toNat * 256 + (s.mem.read (pairLow s.cur.mar)).toNat ∧
    t.mem = s.mem

/-- R184, R185 at the level of a cycle: what `LD_MDR` takes from the bus when `MIO_EN` is 0. -/
def Obligations.MdrFromTheBus : Prop :=
  ∀ s t : State, Running s → step s = .next t →
    cwLdMdr s.cur.microinstruction = true → cwMioEn s.cur.microinstruction = false →
    t.cur.mdr.toNat =
      if cwDataSize s.cur.microinstruction = false ∧ s.cur.mar.getLsbD 0 = true then (t.lastBus.toNat % 256) * 257
      else t.lastBus.toNat

/-- R254, R253: the byte-store protocol works. A cycle loads `MDR` from the bus with `DATA_SIZE = 0` while `MAR` holds
the final address; the low byte of that bus value is what the byte write then stores at the address, odd or even, and
nothing else is stored.
First clause: the next row is a byte-write wait row (`COND = 01`, `J` its own state with `J[1] = 0`, `MIO_EN`, `R_W`,
`DATA_SIZE = 0`, no `LD_MAR`, `LD_MDR` or `LD_PC`). It holds itself for exactly `MEM_CYCLES - memCounter` cycles, in all
but the last of which memory is unchanged: all `MEM_CYCLES` of them for a fresh access (R129), fewer for one that an
earlier drop of `MIO_EN` left over (R131, the spec's decision D29, log 19).
Second clause: any transfer cycle of a byte write right after the load, whatever its row does besides; `READY` is then
left over from an earlier access. -/
def Obligations.ByteStoreProtocolStoresTheLowByte : Prop :=
  (∀ s t : State, BoundaryInv s → Running s → step s = .next t → Running t →
    cwLdMdr s.cur.microinstruction = true → cwMioEn s.cur.microinstruction = false →
    cwDataSize s.cur.microinstruction = false → cwLdMar s.cur.microinstruction = false →
    cwIrd t.cur.microinstruction = false → cwCond t.cur.microinstruction = 1#2 →
    cwJ t.cur.microinstruction = t.cur.stateNumber → t.cur.stateNumber.getLsbD 1 = false →
    cwMioEn t.cur.microinstruction = true → cwRW t.cur.microinstruction = true →
    cwDataSize t.cur.microinstruction = false → cwLdMar t.cur.microinstruction = false →
    cwLdMdr t.cur.microinstruction = false → cwLdPc t.cur.microinstruction = false →
    (∀ k, k < s.memCycles - s.memCounter → ∃ v : State, Sys2Proof.core.run k t = Host.Outcome.next v ∧
      v.cur.stateNumber = t.cur.stateNumber ∧ v.mem = s.mem) ∧
    ∃ u : State, Sys2Proof.core.run (s.memCycles - s.memCounter) t = Host.Outcome.next u ∧
      u.cur.stateNumber = (t.cur.stateNumber ||| 2#6) ∧ u.memCounter = 0 ∧ u.cur.ready = false ∧
      (u.mem.read s.cur.mar.toNat).toNat = t.lastBus.toNat % 256 ∧
      ∀ a, a ≠ s.cur.mar.toNat → u.mem.read a = s.mem.read a) ∧
  (∀ s t u : State, s.mem.wf = true → Running s → step s = .next t → Running t → step t = .next u →
    cwLdMdr s.cur.microinstruction = true → cwMioEn s.cur.microinstruction = false →
    cwDataSize s.cur.microinstruction = false → cwLdMar s.cur.microinstruction = false →
    cwMioEn t.cur.microinstruction = true → cwRW t.cur.microinstruction = true →
    cwDataSize t.cur.microinstruction = false → t.cur.ready = true →
    (u.mem.read s.cur.mar.toNat).toNat = t.lastBus.toNat % 256 ∧
    ∀ a, a ≠ s.cur.mar.toNat → u.mem.read a = s.mem.read a)

/-- HEADLINE. R129, R257: a wait row that holds itself (`COND = 01`, `J` its own state with `J[1] = 0`, `MIO_EN = 1`,
no `LD_PC`) and starts a fresh access stays for exactly `MEM_CYCLES` cycles, whatever the latency is: before each of
them the state number is unchanged and the counter is the number of cycles gone, no byte of memory changes before the
last, and after the last the machine stands at `J OR 2` with the counter and `READY` cleared. A read with `LD_MDR` and
no `LD_MAR` then has in `MDR` the word that `MAR` addressed when the access began. -/
def Obligations.AccessTakesMemCyclesCycles : Prop :=
  ∀ s : State, BoundaryInv s → Running s → s.memCounter = 0 →
    cwIrd s.cur.microinstruction = false → cwCond s.cur.microinstruction = 1#2 →
    cwJ s.cur.microinstruction = s.cur.stateNumber → s.cur.stateNumber.getLsbD 1 = false →
    cwMioEn s.cur.microinstruction = true → cwLdPc s.cur.microinstruction = false →
    (∀ k, k < s.memCycles → ∃ t : State, Sys2Proof.core.run k s = Host.Outcome.next t ∧
      t.cur.stateNumber = s.cur.stateNumber ∧ t.memCounter = k ∧ t.mem = s.mem) ∧
    ∃ t : State, Sys2Proof.core.run s.memCycles s = Host.Outcome.next t ∧
      t.cur.stateNumber = (s.cur.stateNumber ||| 2#6) ∧ t.memCounter = 0 ∧ t.cur.ready = false ∧
      t.cycleCount = s.cycleCount + s.memCycles ∧
      (cwRW s.cur.microinstruction = false → t.mem = s.mem ∧
        (cwLdMdr s.cur.microinstruction = true → cwLdMar s.cur.microinstruction = false →
          t.cur.mdr = memReadWord s.mem s.cur.mar))

/-! ## What no cycle depends on -/

/-- R35, R218: no micro-operation can see `cycleCount` or `lastBus`: changing them changes nothing else in the next
state. -/
def Obligations.CountAndLastBusAreInvisible : Prop :=
  ∀ (s t : State) (k : Nat) (v : Word), Running s → step s = .next t →
    step { s with cycleCount := k, lastBus := v } = .next { t with cycleCount := k + 1 }

/-- R38, R37: no unit reads a field of `nxt`, and nets live for one cycle: a cycle does not depend on what they held
before it. -/
def Obligations.StagedLatchesAndOldNetsAreInvisible : Prop :=
  ∀ (s : State) (l : Latches) (w : Nets), Running s → step { s with nxt := l, nets := w } = step s

/-! ## The micro-operations, unit by unit: completion, value and frame -/

/-- R101, R103, R104, R105, R106, R108: the five next-address rows. Each forms `NEXT_STATE` and fetches its row into
`nxt`; nothing else changes. -/
def Obligations.NextAddressRows : Prop :=
  ∀ (s : State) (j : MicroState),
    let fetched : MicroState → Host.Outcome State Fault Refusal := fun k =>
      .next { s with
        nets := { s.nets with nextState := k }
        nxt := { s.nxt with stateNumber := k, microinstruction := s.controlStore[k.toNat] } }
    (∃ k, exec .seqDispatch s = fetched k ∧ k.toNat = s.cur.ir.toNat / 4096) ∧
    exec (.seqJ j) s = fetched j ∧
    (∃ k, exec (.seqJOrReady j) s = fetched k ∧ k.toNat = j.toNat ||| (2 * s.cur.ready.toNat)) ∧
    (∃ k, exec (.seqJOrBen j) s = fetched k ∧ k.toNat = j.toNat ||| (4 * s.cur.ben.toNat)) ∧
    (∃ k, exec (.seqJOrIr11 j) s = fetched k ∧ k.toNat = j.toNat ||| (s.cur.ir.toNat / 2048 % 2))

/-- R101, R105, R186 seen from `IR`: IR_DISPATCH, IR_COND_BIT11 and IR_BEN_NZP complete in every state; where the
control word uses the field they have the row's effect, and where it does not they change nothing. That an unused
field's row leaves the state alone is the model's reading (log 2). -/
def Obligations.InstructionRegisterRows : Prop :=
  ∀ (s : State) (opcode : BitVec 4) (ir11 n z p : Bool),
    let fetched : MicroState → Host.Outcome State Fault Refusal := fun k =>
      .next { s with
        nets := { s.nets with nextState := k }
        nxt := { s.nxt with stateNumber := k, microinstruction := s.controlStore[k.toNat] } }
    (cwIrd s.cur.microinstruction = true → ∃ k, exec (.irDispatch opcode) s = fetched k ∧ k.toNat = opcode.toNat) ∧
    (cwIrd s.cur.microinstruction = false → exec (.irDispatch opcode) s = .next s) ∧
    (cwIrd s.cur.microinstruction = false → cwCond s.cur.microinstruction = 3#2 →
      ∃ k, exec (.irCondBit11 ir11) s = fetched k ∧
        k.toNat = (cwJ s.cur.microinstruction).toNat ||| ir11.toNat) ∧
    (cwIrd s.cur.microinstruction = true ∨ cwCond s.cur.microinstruction ≠ 3#2 →
      exec (.irCondBit11 ir11) s = .next s) ∧
    (cwLdBen s.cur.microinstruction = true → exec (.irBenNzp n z p) s =
      .next { s with nxt := { s.nxt with ben := (n && s.cur.n) || (z && s.cur.z) || (p && s.cur.p) } }) ∧
    (cwLdBen s.cur.microinstruction = false → exec (.irBenNzp n z p) s = .next s)

/-- R109, R110: the two first-source rows select the register by its `IR` field and read it from `cur`. -/
def Obligations.FirstSourceRows : Prop :=
  ∀ s : State,
    (∃ i : RegIdx, exec .sr1muxIr11To9 s =
        .next { s with nets := { s.nets with sr1Idx := i, sr1Val := s.cur.regs[i.toNat] } } ∧
      i.toNat = s.cur.ir.toNat / 512 % 8) ∧
    (∃ i : RegIdx, exec .sr1muxIr8To6 s =
        .next { s with nets := { s.nets with sr1Idx := i, sr1Val := s.cur.regs[i.toNat] } } ∧
      i.toNat = s.cur.ir.toNat / 64 % 8)

/-- R120, R121: the memory rows in a cycle without a transfer. MEM_IDLE leaves the counter, `READY` and memory alone;
the other three count one cycle and stage `READY` at `MEM_CYCLES - 1`; memory is unchanged and there is no read
result. -/
def Obligations.MemoryRowsWhileCounting : Prop :=
  ∀ (s : State) (i : Instr),
    exec .memIdle s = .next { s with nets := { s.nets with memDone := false, memRdata := none } } ∧
    (i ∈ [Instr.memRead, .memWriteWord, .memWriteByte] → s.cur.ready = false →
      (s.memCounter + 1 = s.memCycles - 1 → exec i s = .next { s with
        nets := { s.nets with memDone := false, memRdata := none }
        memCounter := s.memCounter + 1
        nxt := { s.nxt with ready := true } }) ∧
      (s.memCounter + 1 ≠ s.memCycles - 1 → exec i s = .next { s with
        nets := { s.nets with memDone := false, memRdata := none }
        memCounter := s.memCounter + 1 }))

/-- R122 to R127: the memory rows in a transfer cycle (`cur.READY = 1`). A read gives the word at `cur.MAR`, a word write
stores `cur.MDR` in the pair, a byte write stores the half of `cur.MDR` at the addressed byte's position; the access
ends, and nothing else changes. -/
def Obligations.MemoryRowsInATransfer : Prop :=
  ∀ s : State, s.cur.ready = true → s.mem.wf = true →
    let ended : Option Word → Memory → Host.Outcome State Fault Refusal := fun r m =>
      .next { s with
        nets := { s.nets with memDone := true, memRdata := r }
        memCounter := 0
        nxt := { s.nxt with ready := false }
        mem := m }
    (∃ w : Word, exec .memRead s = ended (some w) s.mem ∧
      w.toNat = (s.mem.read (pairHigh s.cur.mar)).toNat * 256 + (s.mem.read (pairLow s.cur.mar)).toNat) ∧
    (∃ m, exec .memWriteWord s = ended none m ∧ m.wf = true ∧
      (m.read (pairLow s.cur.mar)).toNat = s.cur.mdr.toNat % 256 ∧
      (m.read (pairHigh s.cur.mar)).toNat = s.cur.mdr.toNat / 256 ∧
      ∀ k, k ≠ pairLow s.cur.mar → k ≠ pairHigh s.cur.mar → m.read k = s.mem.read k) ∧
    (∃ m, exec .memWriteByte s = ended none m ∧ m.wf = true ∧
      (m.read s.cur.mar.toNat).toNat =
        (if s.cur.mar.getLsbD 0 then s.cur.mdr.toNat / 256 else s.cur.mdr.toNat % 256) ∧
      ∀ k, k ≠ s.cur.mar.toNat → m.read k = s.mem.read k)

/-- R142, R143, R144: the address-adder inputs. The offsets are the signed values of their `IR` fields; the shift doubles
modulo 2^16. -/
def Obligations.AddressInputRows : Prop :=
  ∀ s : State,
    let input : Word → Host.Outcome State Fault Refusal := fun v =>
      .next { s with nets := { s.nets with addr2Out := v } }
    exec .addr1muxPc s = .next { s with nets := { s.nets with addr1Out := s.cur.pc } } ∧
    exec .addr1muxSr1 s = .next { s with nets := { s.nets with addr1Out := s.nets.sr1Val } } ∧
    exec .addr2muxZero s = input 0#16 ∧
    (∃ v, exec .addr2muxOff6 s = input v ∧ v.toInt =
      if s.cur.ir.toNat % 64 < 32 then (s.cur.ir.toNat % 64 : Int) else (s.cur.ir.toNat % 64 : Int) - 64) ∧
    (∃ v, exec .addr2muxOff9 s = input v ∧ v.toInt =
      if s.cur.ir.toNat % 512 < 256 then (s.cur.ir.toNat % 512 : Int) else (s.cur.ir.toNat % 512 : Int) - 512) ∧
    (∃ v, exec .addr2muxOff11 s = input v ∧ v.toInt =
      if s.cur.ir.toNat % 2048 < 1024 then (s.cur.ir.toNat % 2048 : Int) else (s.cur.ir.toNat % 2048 : Int) - 2048) ∧
    (∃ v, exec .lshf1 s = input v ∧ v.toNat = s.nets.addr2Out.toNat * 2 % 65536)

/-- R145, R146: the MAR mux: twice the zero-extended low byte of `IR`, or the sum of the adder inputs modulo 2^16. -/
def Obligations.MarmuxRows : Prop :=
  ∀ s : State,
    (∃ v : Word, exec .marmuxTrapvect s = .next { s with nets := { s.nets with marmuxOut := v } } ∧
      v.toNat = 2 * (s.cur.ir.toNat % 256)) ∧
    (∃ v : Word, exec .marmuxAddrSum s = .next { s with nets := { s.nets with marmuxOut := v } } ∧
      v.toNat = (s.nets.addr1Out.toNat + s.nets.addr2Out.toNat) % 65536)

/-- R150 to R154: the second ALU operand and the four ALU operations; no flag changes. -/
def Obligations.AluRows : Prop :=
  ∀ (s : State) (r : RegIdx) (imm : BitVec 5),
    let result : Word → Host.Outcome State Fault Refusal := fun v =>
      .next { s with nets := { s.nets with aluOut := v } }
    exec (.irSr2Reg r) s = .next { s with nets := { s.nets with sr2Out := s.cur.regs[r.toNat] } } ∧
    (∃ v : Word, exec (.irSr2Imm5 imm) s = .next { s with nets := { s.nets with sr2Out := v } } ∧
      v.toInt = imm.toInt) ∧
    (∃ v, exec .aluAdd s = result v ∧ v.toNat = (s.nets.sr1Val.toNat + s.nets.sr2Out.toNat) % 65536) ∧
    (∃ v, exec .aluAnd s = result v ∧
      ∀ k, v.getLsbD k = (s.nets.sr1Val.getLsbD k && s.nets.sr2Out.getLsbD k)) ∧
    (∃ v, exec .aluXor s = result v ∧
      ∀ k, v.getLsbD k = Bool.xor (s.nets.sr1Val.getLsbD k) (s.nets.sr2Out.getLsbD k)) ∧
    exec .aluPassa s = result s.nets.sr1Val

/-- R156, R157, R158: the three shifts of `SR1_VAL` by 0 to 15, as multiplication modulo 2^16, division of the unsigned
value, and division of the signed value rounded down. -/
def Obligations.ShifterRows : Prop :=
  ∀ (s : State) (a : BitVec 4),
    let result : Word → Host.Outcome State Fault Refusal := fun v =>
      .next { s with nets := { s.nets with shfOut := v } }
    (∃ v, exec (.irShfLshf a) s = result v ∧ v.toNat = s.nets.sr1Val.toNat * 2 ^ a.toNat % 65536) ∧
    (∃ v, exec (.irShfRshfl a) s = result v ∧ v.toNat = s.nets.sr1Val.toNat / 2 ^ a.toNat) ∧
    (∃ v, exec (.irShfRshfa a) s = result v ∧ v.toInt = s.nets.sr1Val.toInt / 2 ^ a.toNat)

/-- R140, R141, R160: the memory-data candidate, whole or the sign-extended byte that `MAR[0]` selects, and the
destination index. -/
def Obligations.CandidateAndDestinationRows : Prop :=
  ∀ s : State,
    exec .mdrCandWord s = .next { s with nets := { s.nets with mdrCand := s.cur.mdr } } ∧
    (∃ v : Word, exec .mdrCandByte s = .next { s with nets := { s.nets with mdrCand := v } } ∧
      v.toInt = if s.cur.mar.toNat % 2 = 1 then (s.cur.mdr.toInt / 256)
        else if s.cur.mdr.toNat % 256 < 128 then (s.cur.mdr.toNat % 256 : Int)
        else (s.cur.mdr.toNat % 256 : Int) - 256) ∧
    (∃ i : RegIdx, exec .drmuxIr11To9 s = .next { s with nets := { s.nets with drIdx := i } } ∧
      i.toNat = s.cur.ir.toNat / 512 % 8) ∧
    exec .drmuxR7 s = .next { s with nets := { s.nets with drIdx := 7#3 } }

/-- R170, R171: each of the six arbiter rows puts its one value on the bus and changes nothing else. -/
def Obligations.ArbiterRows : Prop :=
  ∀ s : State,
    let driven : Word → Host.Outcome State Fault Refusal := fun v =>
      .next { s with nets := { s.nets with bus := v } }
    exec .gateMarmux s = driven s.nets.marmuxOut ∧ exec .gatePc s = driven s.cur.pc ∧
    exec .gateAlu s = driven s.nets.aluOut ∧ exec .gateShf s = driven s.nets.shfOut ∧
    exec .gateMdr s = driven s.nets.mdrCand ∧ exec .busNone s = driven 0#16

/-- R180, R181, R189, R191, R192, R193: the load rows of `MAR`, `IR`, the register file and `PC`. LD_REG writes the
register `DR_IDX` and keeps the other seven. -/
def Obligations.LoadRows : Prop :=
  ∀ s : State,
    exec .ldMar s = .next { s with nxt := { s.nxt with mar := s.nets.bus } } ∧
    exec .ldIr s = .next { s with nxt := { s.nxt with ir := s.nets.bus } } ∧
    (∃ regs, exec .ldReg s = .next { s with nxt := { s.nxt with regs := regs } } ∧
      ∀ k : RegIdx, regs[k.toNat] = if k = s.nets.drIdx then s.nets.bus else s.nxt.regs[k.toNat]) ∧
    (∃ v : Word, exec .ldPcPlus2 s = .next { s with nxt := { s.nxt with pc := v } } ∧
      v.toNat = (s.cur.pc.toNat + 2) % 65536) ∧
    exec .ldPcBus s = .next { s with nxt := { s.nxt with pc := s.nets.bus } } ∧
    (∃ v : Word, exec .ldPcAddrSum s = .next { s with nxt := { s.nxt with pc := v } } ∧
      v.toNat = (s.nets.addr1Out.toNat + s.nets.addr2Out.toNat) % 65536)

/-- R183, R184, R185: the three sources of `MDR`. LD_MDR_MEM completes in every state and loads the read result when a
read completes; what `MDR` holds during the wait is left unsaid (93_implementation_defined.md U3), but nothing else
changes. -/
def Obligations.MdrLoadRows : Prop :=
  ∀ s : State,
    (∃ v : Word, exec .ldMdrMem s = .next { s with nxt := { s.nxt with mdr := v } } ∧
      ∀ w, s.nets.memDone = true → cwRW s.cur.microinstruction = false → s.nets.memRdata = some w → v = w) ∧
    exec .ldMdrBusWord s = .next { s with nxt := { s.nxt with mdr := s.nets.bus } } ∧
    (∃ v : Word, exec .ldMdrBusByte s = .next { s with nxt := { s.nxt with mdr := v } } ∧
      v.toNat = if s.cur.mar.toNat % 2 = 1 then (s.nets.bus.toNat % 256) * 257 else s.nets.bus.toNat)

/-- R186, R195: LD_BEN and LD_CC. The flags follow the signed bus value and exactly one of them is 1. -/
def Obligations.FlagRows : Prop :=
  ∀ s : State,
    exec .ldBen s = .next { s with nxt := { s.nxt with
      ben := (s.cur.ir.getLsbD 11 && s.cur.n) || (s.cur.ir.getLsbD 10 && s.cur.z) ||
        (s.cur.ir.getLsbD 9 && s.cur.p) } } ∧
    ∃ n z p : Bool, exec .ldCc s = .next { s with nxt := { s.nxt with n := n, z := z, p := p } } ∧
      (n = true ↔ s.nets.bus.toInt < 0) ∧ (z = true ↔ s.nets.bus.toInt = 0) ∧ (p = true ↔ 0 < s.nets.bus.toInt) ∧
      n.toNat + z.toNat + p.toNat = 1

/-- R194, R214: the reserved row stops in every state, and the fault records the control word and the state number. -/
def Obligations.ReservedPcSelectStops : Prop :=
  ∀ s : State, ∃ left, exec .ldPcReserved s =
      .fault (.illFormedControlWord s.cur.microinstruction s.cur.stateNumber left) ∧
    left.cur = s.cur ∧ left.nxt = s.cur ∧ left.lastBus = s.lastBus ∧ left.cycleCount = s.cycleCount ∧
    left.mem = s.mem ∧ left.memCounter = s.memCounter

/-! ## Dumps -/

/-- R229: a dump reports the bytes of the closed range, and a range outside the address space or out of order is
refused. -/
def Obligations.MemoryDumpReportsTheClosedRange : Prop :=
  ∀ (s : State) (lo hi : Nat),
    (lo ≤ hi → hi ≤ 0xFFFF → ∃ bytes, dumpMemoryRange s lo hi = some bytes ∧ bytes.length = hi - lo + 1 ∧
      ∀ k, lo + k ≤ hi → bytes[k]? = some (s.mem.read (lo + k))) ∧
    (hi < lo ∨ 0xFFFF < hi → dumpMemoryRange s lo hi = none)

/-- R40, R226: what the host sees of the block through the register dump: every latch of `cur`, `lastBus`, `cycleCount`
and, as R40 has it, `halted` (DEDUCED, log 22). It is enough to foresee the halt test: a machine whose dump shows
`halted` clear and `PC` 0 steps only to the halt, and one whose dump shows `halted` set refuses. -/
def Obligations.RegisterDumpShowsTheOutputs : Prop :=
  ∀ s : State,
    (dumpRegistersAndBus s).latches = s.cur ∧ (dumpRegistersAndBus s).lastBus = s.lastBus ∧
    (dumpRegistersAndBus s).cycleCount = s.cycleCount ∧ (dumpRegistersAndBus s).halted = s.halted ∧
    ((dumpRegistersAndBus s).halted = false → (dumpRegistersAndBus s).latches.pc = 0#16 →
      ∃ t, step s = .next t ∧ dumpRegistersAndBus t = { dumpRegistersAndBus s with halted := true }) ∧
    ((dumpRegistersAndBus s).halted = true → step s = .refused .alreadyHalted)
end

