-- ==== Sys2Proof/Laws/Memory.lean ====
section
/-! SUPPORT. The laws of memory: a byte read after a byte write, the canonical form that every memory operation keeps,
and where the bytes of a pair lie. Later proofs cite these and never unfold `Memory.read` or `Memory.write`. -/

namespace Sys2Proof.Machine

/-! ### The canonical form -/

/-- The canonical form of a non-empty memory, entry by entry. -/
theorem Memory.wfFrom_cons (lo a : Nat) (v : Byte) (rest : Memory) :
    Memory.wfFrom lo ((a, v) :: rest) = true ↔
      lo ≤ a ∧ a < Config.addressCount ∧ v ≠ Config.unlistedByte ∧ Memory.wfFrom (a + 1) rest = true := by
  simp [Memory.wfFrom, and_assoc]

/-- A lower bound may be lowered. -/
theorem Memory.wfFrom_mono {lo lo' : Nat} (m : Memory) (h : lo' ≤ lo) (hw : Memory.wfFrom lo m = true) :
    Memory.wfFrom lo' m = true := by
  cases m with
  | nil => rfl
  | cons c rest =>
    obtain ⟨a, v⟩ := c
    rw [Memory.wfFrom_cons] at hw ⊢
    exact ⟨by omega, hw.2⟩

/-- An address below every listed one reads as an unlisted byte. -/
theorem Memory.read_below {lo a : Nat} (m : Memory) (hw : Memory.wfFrom lo m = true) (h : a < lo) :
    m.read a = Config.unlistedByte := by
  induction m generalizing lo with
  | nil => rfl
  | cons c rest ih =>
    obtain ⟨b, v⟩ := c
    rw [Memory.wfFrom_cons] at hw
    have hne : a ≠ b := by omega
    rw [Memory.read, if_neg hne]
    exact ih hw.2.2.2 (by omega)

/-- One byte write keeps the canonical form. -/
theorem Memory.wfFrom_write {lo a : Nat} (m : Memory) (v : Byte) (hw : Memory.wfFrom lo m = true) (hlo : lo ≤ a)
    (ha : a < Config.addressCount) : Memory.wfFrom lo (m.write a v) = true := by
  induction m generalizing lo with
  | nil =>
    rw [Memory.write]
    split
    · rfl
    · rename_i hv
      exact (Memory.wfFrom_cons ..).2 ⟨hlo, ha, hv, rfl⟩
  | cons c rest ih =>
    obtain ⟨b, w⟩ := c
    rw [Memory.write]
    have hc := (Memory.wfFrom_cons ..).1 hw
    split
    · rename_i hab
      split
      · exact hw
      · rename_i hv
        refine (Memory.wfFrom_cons ..).2 ⟨hlo, ha, hv, (Memory.wfFrom_cons ..).2 ⟨?_, hc.2⟩⟩
        omega
    · split
      · rename_i hab
        subst hab
        split
        · exact Memory.wfFrom_mono rest (by omega) hc.2.2.2
        · rename_i hv
          exact (Memory.wfFrom_cons ..).2 ⟨hlo, ha, hv, hc.2.2.2⟩
      · exact (Memory.wfFrom_cons ..).2 ⟨hc.1, hc.2.1, hc.2.2.1, ih hc.2.2.2 (by omega)⟩

/-- One byte write keeps the canonical form of memory. -/
theorem Memory.wf_write {a : Nat} (m : Memory) (v : Byte) (hw : m.wf = true) (ha : a < Config.addressCount) :
    (m.write a v).wf = true := Memory.wfFrom_write m v hw (Nat.zero_le _) ha

/-! ### Read after write -/

/-- The byte written is the byte read. -/
theorem Memory.read_write_same_from {lo : Nat} (m : Memory) (a : Nat) (v : Byte) (hw : Memory.wfFrom lo m = true) :
    (m.write a v).read a = v := by
  induction m generalizing lo with
  | nil =>
    rw [Memory.write]
    split
    · rename_i hv; rw [hv]; rfl
    · simp [Memory.read]
  | cons c rest ih =>
    obtain ⟨b, w⟩ := c
    have hc := (Memory.wfFrom_cons ..).1 hw
    rw [Memory.write]
    split
    · rename_i hab
      split
      · rename_i hv
        rw [Memory.read, if_neg (by omega), Memory.read_below rest hc.2.2.2 (by omega), hv]
      · simp [Memory.read]
    · split
      · rename_i hab
        subst hab
        split
        · rename_i hv
          rw [Memory.read_below rest hc.2.2.2 (by omega), hv]
        · simp [Memory.read]
      · rename_i hne
        rw [Memory.read, if_neg hne]
        exact ih hc.2.2.2

/-- The byte written is the byte read, in a canonical memory. -/
theorem Memory.read_write_same (m : Memory) (a : Nat) (v : Byte) (hw : m.wf = true) : (m.write a v).read a = v :=
  Memory.read_write_same_from m a v hw

/-- A byte write leaves every other byte alone. -/
theorem Memory.read_write_other (m : Memory) (a b : Nat) (v : Byte) (h : b ≠ a) : (m.write a v).read b = m.read b := by
  induction m with
  | nil =>
    rw [Memory.write]
    split
    · rfl
    · simp [Memory.read, h]
  | cons c rest ih =>
    obtain ⟨k, w⟩ := c
    rw [Memory.write]
    split
    · split
      · rfl
      · simp [Memory.read, h]
    · split
      · rename_i hk
        subst hk
        split <;> simp [Memory.read, h]
      · simp only [Memory.read]
        split
        · rfl
        · exact ih

/-! ### The pair of an address -/

/-- The low byte's address lies in the address space. -/
theorem pairLow_lt (a : Word) : pairLow a < Config.addressCount := by
  simp only [pairLow, Config.addressCount, BitVec.toNat_ushiftRight, Nat.shiftRight_eq_div_pow]
  omega

/-- The high byte's address lies in the address space. -/
theorem pairHigh_lt (a : Word) : pairHigh a < Config.addressCount := by
  simp only [pairHigh, Config.addressCount, BitVec.toNat_ushiftRight, Nat.shiftRight_eq_div_pow]
  omega

/-- The high byte lies one above the low byte. -/
theorem pairHigh_eq (a : Word) : pairHigh a = pairLow a + 1 := rfl

/-- The low byte's address is even. -/
theorem pairLow_even (a : Word) : pairLow a % 2 = 0 := by simp [pairLow]

/-! ### Every memory operation keeps the canonical form -/

/-- `MemWriteWord` keeps the canonical form. -/
theorem memWriteWord_wf (m : Memory) (a v : Word) (hw : m.wf = true) : (memWriteWord m a v).wf = true :=
  Memory.wf_write _ _ (Memory.wf_write _ _ hw (pairLow_lt a)) (pairHigh_lt a)

/-- `MemWriteByte` keeps the canonical form. -/
theorem memWriteByte_wf (m : Memory) (a : Word) (b : Byte) (hw : m.wf = true) : (memWriteByte m a b).wf = true := by
  unfold memWriteByte
  split
  · exact Memory.wf_write _ _ hw (pairHigh_lt a)
  · exact Memory.wf_write _ _ hw (pairLow_lt a)

/-- The image load keeps the canonical form. -/
theorem storeImage_wf (a : Nat) (ws : List Word) (m : Memory) (hw : m.wf = true) : (storeImage a ws m).wf = true := by
  induction ws generalizing a m with
  | nil => exact hw
  | cons w rest ih => exact ih _ _ (memWriteWord_wf m _ w hw)

/-- Memory at reset is canonical. -/
theorem reset_mem_wf : State.reset.mem.wf = true := rfl

end Sys2Proof.Machine
end

