-- ==== Sys2Proof/Laws/State.lean ====
section
/-! SUPPORT. What each named update of State leaves in each field: one lemma per field per update, true by rfl. -/

namespace Sys2Proof.Machine

/-! ### State.withNxt -/

@[simp] theorem State.withNxt_cur (s : State) (l : Latches) : (s.withNxt l).cur = s.cur := rfl
@[simp] theorem State.withNxt_nxt (s : State) (l : Latches) : (s.withNxt l).nxt = l := rfl
@[simp] theorem State.withNxt_nets (s : State) (l : Latches) : (s.withNxt l).nets = s.nets := rfl
@[simp] theorem State.withNxt_controlStore (s : State) (l : Latches) : (s.withNxt l).controlStore = s.controlStore := rfl
@[simp] theorem State.withNxt_mem (s : State) (l : Latches) : (s.withNxt l).mem = s.mem := rfl
@[simp] theorem State.withNxt_memCounter (s : State) (l : Latches) : (s.withNxt l).memCounter = s.memCounter := rfl
@[simp] theorem State.withNxt_cycleCount (s : State) (l : Latches) : (s.withNxt l).cycleCount = s.cycleCount := rfl
@[simp] theorem State.withNxt_lastBus (s : State) (l : Latches) : (s.withNxt l).lastBus = s.lastBus := rfl
@[simp] theorem State.withNxt_halted (s : State) (l : Latches) : (s.withNxt l).halted = s.halted := rfl
@[simp] theorem State.withNxt_memCycles (s : State) (l : Latches) : (s.withNxt l).memCycles = s.memCycles := rfl

/-! ### State.withNets -/

@[simp] theorem State.withNets_cur (s : State) (w : Nets) : (s.withNets w).cur = s.cur := rfl
@[simp] theorem State.withNets_nxt (s : State) (w : Nets) : (s.withNets w).nxt = s.nxt := rfl
@[simp] theorem State.withNets_nets (s : State) (w : Nets) : (s.withNets w).nets = w := rfl
@[simp] theorem State.withNets_controlStore (s : State) (w : Nets) : (s.withNets w).controlStore = s.controlStore := rfl
@[simp] theorem State.withNets_mem (s : State) (w : Nets) : (s.withNets w).mem = s.mem := rfl
@[simp] theorem State.withNets_memCounter (s : State) (w : Nets) : (s.withNets w).memCounter = s.memCounter := rfl
@[simp] theorem State.withNets_cycleCount (s : State) (w : Nets) : (s.withNets w).cycleCount = s.cycleCount := rfl
@[simp] theorem State.withNets_lastBus (s : State) (w : Nets) : (s.withNets w).lastBus = s.lastBus := rfl
@[simp] theorem State.withNets_halted (s : State) (w : Nets) : (s.withNets w).halted = s.halted := rfl
@[simp] theorem State.withNets_memCycles (s : State) (w : Nets) : (s.withNets w).memCycles = s.memCycles := rfl

/-! ### State.withMem -/

@[simp] theorem State.withMem_cur (s : State) (m : Memory) : (s.withMem m).cur = s.cur := rfl
@[simp] theorem State.withMem_nxt (s : State) (m : Memory) : (s.withMem m).nxt = s.nxt := rfl
@[simp] theorem State.withMem_nets (s : State) (m : Memory) : (s.withMem m).nets = s.nets := rfl
@[simp] theorem State.withMem_controlStore (s : State) (m : Memory) : (s.withMem m).controlStore = s.controlStore := rfl
@[simp] theorem State.withMem_mem (s : State) (m : Memory) : (s.withMem m).mem = m := rfl
@[simp] theorem State.withMem_memCounter (s : State) (m : Memory) : (s.withMem m).memCounter = s.memCounter := rfl
@[simp] theorem State.withMem_cycleCount (s : State) (m : Memory) : (s.withMem m).cycleCount = s.cycleCount := rfl
@[simp] theorem State.withMem_lastBus (s : State) (m : Memory) : (s.withMem m).lastBus = s.lastBus := rfl
@[simp] theorem State.withMem_halted (s : State) (m : Memory) : (s.withMem m).halted = s.halted := rfl
@[simp] theorem State.withMem_memCycles (s : State) (m : Memory) : (s.withMem m).memCycles = s.memCycles := rfl

/-! ### State.withMemCounter -/

@[simp] theorem State.withMemCounter_cur (s : State) (k : Nat) : (s.withMemCounter k).cur = s.cur := rfl
@[simp] theorem State.withMemCounter_nxt (s : State) (k : Nat) : (s.withMemCounter k).nxt = s.nxt := rfl
@[simp] theorem State.withMemCounter_nets (s : State) (k : Nat) : (s.withMemCounter k).nets = s.nets := rfl
@[simp] theorem State.withMemCounter_controlStore (s : State) (k : Nat) : (s.withMemCounter k).controlStore = s.controlStore := rfl
@[simp] theorem State.withMemCounter_mem (s : State) (k : Nat) : (s.withMemCounter k).mem = s.mem := rfl
@[simp] theorem State.withMemCounter_memCounter (s : State) (k : Nat) : (s.withMemCounter k).memCounter = k := rfl
@[simp] theorem State.withMemCounter_cycleCount (s : State) (k : Nat) : (s.withMemCounter k).cycleCount = s.cycleCount := rfl
@[simp] theorem State.withMemCounter_lastBus (s : State) (k : Nat) : (s.withMemCounter k).lastBus = s.lastBus := rfl
@[simp] theorem State.withMemCounter_halted (s : State) (k : Nat) : (s.withMemCounter k).halted = s.halted := rfl
@[simp] theorem State.withMemCounter_memCycles (s : State) (k : Nat) : (s.withMemCounter k).memCycles = s.memCycles := rfl

/-! ### State.abandonCycle -/

@[simp] theorem State.abandonCycle_cur (s : State) : (s.abandonCycle).cur = s.cur := rfl
@[simp] theorem State.abandonCycle_nxt (s : State) : (s.abandonCycle).nxt = s.cur := rfl
@[simp] theorem State.abandonCycle_nets (s : State) : (s.abandonCycle).nets = Nets.idle := rfl
@[simp] theorem State.abandonCycle_controlStore (s : State) : (s.abandonCycle).controlStore = s.controlStore := rfl
@[simp] theorem State.abandonCycle_mem (s : State) : (s.abandonCycle).mem = s.mem := rfl
@[simp] theorem State.abandonCycle_memCounter (s : State) : (s.abandonCycle).memCounter = s.memCounter := rfl
@[simp] theorem State.abandonCycle_cycleCount (s : State) : (s.abandonCycle).cycleCount = s.cycleCount := rfl
@[simp] theorem State.abandonCycle_lastBus (s : State) : (s.abandonCycle).lastBus = s.lastBus := rfl
@[simp] theorem State.abandonCycle_halted (s : State) : (s.abandonCycle).halted = s.halted := rfl
@[simp] theorem State.abandonCycle_memCycles (s : State) : (s.abandonCycle).memCycles = s.memCycles := rfl

/-! ### State.beginCycle -/

@[simp] theorem State.beginCycle_cur (s : State) : (s.beginCycle).cur = s.cur := rfl
@[simp] theorem State.beginCycle_nxt (s : State) : (s.beginCycle).nxt = s.cur := rfl
@[simp] theorem State.beginCycle_nets (s : State) : (s.beginCycle).nets = Nets.idle := rfl
@[simp] theorem State.beginCycle_controlStore (s : State) : (s.beginCycle).controlStore = s.controlStore := rfl
@[simp] theorem State.beginCycle_mem (s : State) : (s.beginCycle).mem = s.mem := rfl
@[simp] theorem State.beginCycle_memCounter (s : State) : (s.beginCycle).memCounter = s.memCounter := rfl
@[simp] theorem State.beginCycle_cycleCount (s : State) : (s.beginCycle).cycleCount = s.cycleCount := rfl
@[simp] theorem State.beginCycle_lastBus (s : State) : (s.beginCycle).lastBus = s.lastBus := rfl
@[simp] theorem State.beginCycle_halted (s : State) : (s.beginCycle).halted = s.halted := rfl
@[simp] theorem State.beginCycle_memCycles (s : State) : (s.beginCycle).memCycles = s.memCycles := rfl

/-! ### State.swap -/

@[simp] theorem State.swap_cur (s : State) : (s.swap).cur = s.nxt := rfl
@[simp] theorem State.swap_nxt (s : State) : (s.swap).nxt = s.nxt := rfl
@[simp] theorem State.swap_nets (s : State) : (s.swap).nets = Nets.idle := rfl
@[simp] theorem State.swap_controlStore (s : State) : (s.swap).controlStore = s.controlStore := rfl
@[simp] theorem State.swap_mem (s : State) : (s.swap).mem = s.mem := rfl
@[simp] theorem State.swap_memCounter (s : State) : (s.swap).memCounter = s.memCounter := rfl
@[simp] theorem State.swap_cycleCount (s : State) : (s.swap).cycleCount = s.cycleCount + 1 := rfl
@[simp] theorem State.swap_lastBus (s : State) : (s.swap).lastBus = s.nets.bus := rfl
@[simp] theorem State.swap_halted (s : State) : (s.swap).halted = s.halted := rfl
@[simp] theorem State.swap_memCycles (s : State) : (s.swap).memCycles = s.memCycles := rfl

/-! ### State.halt -/

@[simp] theorem State.halt_cur (s : State) : (s.halt).cur = s.cur := rfl
@[simp] theorem State.halt_nxt (s : State) : (s.halt).nxt = s.nxt := rfl
@[simp] theorem State.halt_nets (s : State) : (s.halt).nets = s.nets := rfl
@[simp] theorem State.halt_controlStore (s : State) : (s.halt).controlStore = s.controlStore := rfl
@[simp] theorem State.halt_mem (s : State) : (s.halt).mem = s.mem := rfl
@[simp] theorem State.halt_memCounter (s : State) : (s.halt).memCounter = s.memCounter := rfl
@[simp] theorem State.halt_cycleCount (s : State) : (s.halt).cycleCount = s.cycleCount := rfl
@[simp] theorem State.halt_lastBus (s : State) : (s.halt).lastBus = s.lastBus := rfl
@[simp] theorem State.halt_halted (s : State) : (s.halt).halted = true := rfl
@[simp] theorem State.halt_memCycles (s : State) : (s.halt).memCycles = s.memCycles := rfl

/-! ### State.placeControlWord -/

@[simp] theorem State.placeControlWord_cur (s : State) (cw : ControlWord) : (s.placeControlWord cw).cur = { s.cur with microinstruction := cw } := rfl
@[simp] theorem State.placeControlWord_nxt (s : State) (cw : ControlWord) : (s.placeControlWord cw).nxt = { s.nxt with microinstruction := cw } := rfl
@[simp] theorem State.placeControlWord_nets (s : State) (cw : ControlWord) : (s.placeControlWord cw).nets = s.nets := rfl
@[simp] theorem State.placeControlWord_controlStore (s : State) (cw : ControlWord) : (s.placeControlWord cw).controlStore = s.controlStore.set s.cur.stateNumber.toNat cw := rfl
@[simp] theorem State.placeControlWord_mem (s : State) (cw : ControlWord) : (s.placeControlWord cw).mem = s.mem := rfl
@[simp] theorem State.placeControlWord_memCounter (s : State) (cw : ControlWord) : (s.placeControlWord cw).memCounter = s.memCounter := rfl
@[simp] theorem State.placeControlWord_cycleCount (s : State) (cw : ControlWord) : (s.placeControlWord cw).cycleCount = s.cycleCount := rfl
@[simp] theorem State.placeControlWord_lastBus (s : State) (cw : ControlWord) : (s.placeControlWord cw).lastBus = s.lastBus := rfl
@[simp] theorem State.placeControlWord_halted (s : State) (cw : ControlWord) : (s.placeControlWord cw).halted = s.halted := rfl
@[simp] theorem State.placeControlWord_memCycles (s : State) (cw : ControlWord) : (s.placeControlWord cw).memCycles = s.memCycles := rfl

/-! ### State.placeIr -/

@[simp] theorem State.placeIr_cur (s : State) (ir : Word) : (s.placeIr ir).cur = { s.cur with ir := ir } := rfl
@[simp] theorem State.placeIr_nxt (s : State) (ir : Word) : (s.placeIr ir).nxt = { s.nxt with ir := ir } := rfl
@[simp] theorem State.placeIr_nets (s : State) (ir : Word) : (s.placeIr ir).nets = s.nets := rfl
@[simp] theorem State.placeIr_controlStore (s : State) (ir : Word) : (s.placeIr ir).controlStore = s.controlStore := rfl
@[simp] theorem State.placeIr_mem (s : State) (ir : Word) : (s.placeIr ir).mem = s.mem := rfl
@[simp] theorem State.placeIr_memCounter (s : State) (ir : Word) : (s.placeIr ir).memCounter = s.memCounter := rfl
@[simp] theorem State.placeIr_cycleCount (s : State) (ir : Word) : (s.placeIr ir).cycleCount = s.cycleCount := rfl
@[simp] theorem State.placeIr_lastBus (s : State) (ir : Word) : (s.placeIr ir).lastBus = s.lastBus := rfl
@[simp] theorem State.placeIr_halted (s : State) (ir : Word) : (s.placeIr ir).halted = s.halted := rfl
@[simp] theorem State.placeIr_memCycles (s : State) (ir : Word) : (s.placeIr ir).memCycles = s.memCycles := rfl

/-! ### selectRow -/

@[simp] theorem selectRow_cur (s : State) (k : MicroState) : (selectRow k s).cur = s.cur := rfl
@[simp] theorem selectRow_nxt (s : State) (k : MicroState) : (selectRow k s).nxt = { s.nxt with stateNumber := k, microinstruction := controlRow s.controlStore k } := rfl
@[simp] theorem selectRow_nets (s : State) (k : MicroState) : (selectRow k s).nets = { s.nets with nextState := k } := rfl
@[simp] theorem selectRow_controlStore (s : State) (k : MicroState) : (selectRow k s).controlStore = s.controlStore := rfl
@[simp] theorem selectRow_mem (s : State) (k : MicroState) : (selectRow k s).mem = s.mem := rfl
@[simp] theorem selectRow_memCounter (s : State) (k : MicroState) : (selectRow k s).memCounter = s.memCounter := rfl
@[simp] theorem selectRow_cycleCount (s : State) (k : MicroState) : (selectRow k s).cycleCount = s.cycleCount := rfl
@[simp] theorem selectRow_lastBus (s : State) (k : MicroState) : (selectRow k s).lastBus = s.lastBus := rfl
@[simp] theorem selectRow_halted (s : State) (k : MicroState) : (selectRow k s).halted = s.halted := rfl
@[simp] theorem selectRow_memCycles (s : State) (k : MicroState) : (selectRow k s).memCycles = s.memCycles := rfl

/-! ### selectSr1 -/

@[simp] theorem selectSr1_cur (s : State) (i : RegIdx) : (selectSr1 i s).cur = s.cur := rfl
@[simp] theorem selectSr1_nxt (s : State) (i : RegIdx) : (selectSr1 i s).nxt = s.nxt := rfl
@[simp] theorem selectSr1_nets (s : State) (i : RegIdx) : (selectSr1 i s).nets = { s.nets with sr1Idx := i, sr1Val := regRead s.cur.regs i } := rfl
@[simp] theorem selectSr1_controlStore (s : State) (i : RegIdx) : (selectSr1 i s).controlStore = s.controlStore := rfl
@[simp] theorem selectSr1_mem (s : State) (i : RegIdx) : (selectSr1 i s).mem = s.mem := rfl
@[simp] theorem selectSr1_memCounter (s : State) (i : RegIdx) : (selectSr1 i s).memCounter = s.memCounter := rfl
@[simp] theorem selectSr1_cycleCount (s : State) (i : RegIdx) : (selectSr1 i s).cycleCount = s.cycleCount := rfl
@[simp] theorem selectSr1_lastBus (s : State) (i : RegIdx) : (selectSr1 i s).lastBus = s.lastBus := rfl
@[simp] theorem selectSr1_halted (s : State) (i : RegIdx) : (selectSr1 i s).halted = s.halted := rfl
@[simp] theorem selectSr1_memCycles (s : State) (i : RegIdx) : (selectSr1 i s).memCycles = s.memCycles := rfl

/-! ### beginMemory -/

@[simp] theorem beginMemory_cur (s : State) : (beginMemory s).cur = s.cur := rfl
@[simp] theorem beginMemory_nxt (s : State) : (beginMemory s).nxt = s.nxt := rfl
@[simp] theorem beginMemory_nets (s : State) : (beginMemory s).nets = { s.nets with memDone := false, memRdata := none } := rfl
@[simp] theorem beginMemory_controlStore (s : State) : (beginMemory s).controlStore = s.controlStore := rfl
@[simp] theorem beginMemory_mem (s : State) : (beginMemory s).mem = s.mem := rfl
@[simp] theorem beginMemory_memCounter (s : State) : (beginMemory s).memCounter = s.memCounter := rfl
@[simp] theorem beginMemory_cycleCount (s : State) : (beginMemory s).cycleCount = s.cycleCount := rfl
@[simp] theorem beginMemory_lastBus (s : State) : (beginMemory s).lastBus = s.lastBus := rfl
@[simp] theorem beginMemory_halted (s : State) : (beginMemory s).halted = s.halted := rfl
@[simp] theorem beginMemory_memCycles (s : State) : (beginMemory s).memCycles = s.memCycles := rfl

/-! ### endAccess -/

@[simp] theorem endAccess_cur (s : State) : (endAccess s).cur = s.cur := rfl
@[simp] theorem endAccess_nxt (s : State) : (endAccess s).nxt = { s.nxt with ready := false } := rfl
@[simp] theorem endAccess_nets (s : State) : (endAccess s).nets = { s.nets with memDone := true } := rfl
@[simp] theorem endAccess_controlStore (s : State) : (endAccess s).controlStore = s.controlStore := rfl
@[simp] theorem endAccess_mem (s : State) : (endAccess s).mem = s.mem := rfl
@[simp] theorem endAccess_memCounter (s : State) : (endAccess s).memCounter = 0 := rfl
@[simp] theorem endAccess_cycleCount (s : State) : (endAccess s).cycleCount = s.cycleCount := rfl
@[simp] theorem endAccess_lastBus (s : State) : (endAccess s).lastBus = s.lastBus := rfl
@[simp] theorem endAccess_halted (s : State) : (endAccess s).halted = s.halted := rfl
@[simp] theorem endAccess_memCycles (s : State) : (endAccess s).memCycles = s.memCycles := rfl

/-! ### driveBus -/

@[simp] theorem driveBus_cur (s : State) (v : Word) : (driveBus v s).cur = s.cur := rfl
@[simp] theorem driveBus_nxt (s : State) (v : Word) : (driveBus v s).nxt = s.nxt := rfl
@[simp] theorem driveBus_nets (s : State) (v : Word) : (driveBus v s).nets = { s.nets with bus := v } := rfl
@[simp] theorem driveBus_controlStore (s : State) (v : Word) : (driveBus v s).controlStore = s.controlStore := rfl
@[simp] theorem driveBus_mem (s : State) (v : Word) : (driveBus v s).mem = s.mem := rfl
@[simp] theorem driveBus_memCounter (s : State) (v : Word) : (driveBus v s).memCounter = s.memCounter := rfl
@[simp] theorem driveBus_cycleCount (s : State) (v : Word) : (driveBus v s).cycleCount = s.cycleCount := rfl
@[simp] theorem driveBus_lastBus (s : State) (v : Word) : (driveBus v s).lastBus = s.lastBus := rfl
@[simp] theorem driveBus_halted (s : State) (v : Word) : (driveBus v s).halted = s.halted := rfl
@[simp] theorem driveBus_memCycles (s : State) (v : Word) : (driveBus v s).memCycles = s.memCycles := rfl

/-! ### stageBen -/

@[simp] theorem stageBen_cur (s : State) (v : Bool) : (stageBen v s).cur = s.cur := rfl
@[simp] theorem stageBen_nxt (s : State) (v : Bool) : (stageBen v s).nxt = { s.nxt with ben := v } := rfl
@[simp] theorem stageBen_nets (s : State) (v : Bool) : (stageBen v s).nets = s.nets := rfl
@[simp] theorem stageBen_controlStore (s : State) (v : Bool) : (stageBen v s).controlStore = s.controlStore := rfl
@[simp] theorem stageBen_mem (s : State) (v : Bool) : (stageBen v s).mem = s.mem := rfl
@[simp] theorem stageBen_memCounter (s : State) (v : Bool) : (stageBen v s).memCounter = s.memCounter := rfl
@[simp] theorem stageBen_cycleCount (s : State) (v : Bool) : (stageBen v s).cycleCount = s.cycleCount := rfl
@[simp] theorem stageBen_lastBus (s : State) (v : Bool) : (stageBen v s).lastBus = s.lastBus := rfl
@[simp] theorem stageBen_halted (s : State) (v : Bool) : (stageBen v s).halted = s.halted := rfl
@[simp] theorem stageBen_memCycles (s : State) (v : Bool) : (stageBen v s).memCycles = s.memCycles := rfl

/-! ### stageMdr -/

@[simp] theorem stageMdr_cur (s : State) (v : Word) : (stageMdr v s).cur = s.cur := rfl
@[simp] theorem stageMdr_nxt (s : State) (v : Word) : (stageMdr v s).nxt = { s.nxt with mdr := v } := rfl
@[simp] theorem stageMdr_nets (s : State) (v : Word) : (stageMdr v s).nets = s.nets := rfl
@[simp] theorem stageMdr_controlStore (s : State) (v : Word) : (stageMdr v s).controlStore = s.controlStore := rfl
@[simp] theorem stageMdr_mem (s : State) (v : Word) : (stageMdr v s).mem = s.mem := rfl
@[simp] theorem stageMdr_memCounter (s : State) (v : Word) : (stageMdr v s).memCounter = s.memCounter := rfl
@[simp] theorem stageMdr_cycleCount (s : State) (v : Word) : (stageMdr v s).cycleCount = s.cycleCount := rfl
@[simp] theorem stageMdr_lastBus (s : State) (v : Word) : (stageMdr v s).lastBus = s.lastBus := rfl
@[simp] theorem stageMdr_halted (s : State) (v : Word) : (stageMdr v s).halted = s.halted := rfl
@[simp] theorem stageMdr_memCycles (s : State) (v : Word) : (stageMdr v s).memCycles = s.memCycles := rfl

/-! ### stagePc -/

@[simp] theorem stagePc_cur (s : State) (v : Word) : (stagePc v s).cur = s.cur := rfl
@[simp] theorem stagePc_nxt (s : State) (v : Word) : (stagePc v s).nxt = { s.nxt with pc := v } := rfl
@[simp] theorem stagePc_nets (s : State) (v : Word) : (stagePc v s).nets = s.nets := rfl
@[simp] theorem stagePc_controlStore (s : State) (v : Word) : (stagePc v s).controlStore = s.controlStore := rfl
@[simp] theorem stagePc_mem (s : State) (v : Word) : (stagePc v s).mem = s.mem := rfl
@[simp] theorem stagePc_memCounter (s : State) (v : Word) : (stagePc v s).memCounter = s.memCounter := rfl
@[simp] theorem stagePc_cycleCount (s : State) (v : Word) : (stagePc v s).cycleCount = s.cycleCount := rfl
@[simp] theorem stagePc_lastBus (s : State) (v : Word) : (stagePc v s).lastBus = s.lastBus := rfl
@[simp] theorem stagePc_halted (s : State) (v : Word) : (stagePc v s).halted = s.halted := rfl
@[simp] theorem stagePc_memCycles (s : State) (v : Word) : (stagePc v s).memCycles = s.memCycles := rfl

/-! ### countAccess -/

@[simp] theorem countAccess_cur (s : State) : (countAccess s).cur = s.cur := rfl
@[simp] theorem countAccess_nxt (s : State) : (countAccess s).nxt = { s.nxt with ready := s.nxt.ready || (s.memCounter + 1 == s.memCycles - 1) } := rfl
@[simp] theorem countAccess_nets (s : State) : (countAccess s).nets = s.nets := rfl
@[simp] theorem countAccess_controlStore (s : State) : (countAccess s).controlStore = s.controlStore := rfl
@[simp] theorem countAccess_mem (s : State) : (countAccess s).mem = s.mem := rfl
@[simp] theorem countAccess_memCounter (s : State) : (countAccess s).memCounter = s.memCounter + 1 := rfl
@[simp] theorem countAccess_cycleCount (s : State) : (countAccess s).cycleCount = s.cycleCount := rfl
@[simp] theorem countAccess_lastBus (s : State) : (countAccess s).lastBus = s.lastBus := rfl
@[simp] theorem countAccess_halted (s : State) : (countAccess s).halted = s.halted := rfl
@[simp] theorem countAccess_memCycles (s : State) : (countAccess s).memCycles = s.memCycles := rfl

end Sys2Proof.Machine
end

