-- ==== Sys2Proof/Laws/Ops.lean ====
section
/-! SUPPORT. One lemma for each shared operation, saying once everything it can do: running a list of
micro-operations, a cycle, a step, a run, the host's loop and dump, the register file, and the steps of the memory
timing unit. -/

namespace Sys2Proof.Machine

/-! ### Registers and control-store rows -/

/-- A written register reads as the value written. -/
@[simp] theorem regRead_regWrite_same (regs : Vector Word 8) (i : RegIdx) (v : Word) :
    regRead (regWrite regs i v) i = v := by simp [regRead, regWrite]

/-- The other seven registers keep their values (R189). -/
theorem regRead_regWrite_other (regs : Vector Word 8) (i k : RegIdx) (v : Word) (h : k ≠ i) :
    regRead (regWrite regs i v) k = regRead regs k := by
  have hn : i.toNat ≠ k.toNat := fun e => h (BitVec.eq_of_toNat_eq e.symm)
  simp [regRead, regWrite, hn]

/-! ### Lists of micro-operations -/

/-- No micro-operation: nothing happens. -/
@[simp] theorem runOps_nil (s : State) : runOps [] s = .next s := rfl

/-- A micro-operation that answers a next state hands it to the rest. -/
theorem runOps_cons_next {i : Instr} {s t : State} (rest : List Instr) (h : exec i s = .next t) :
    runOps (i :: rest) s = runOps rest t := by simp [runOps, h]

/-- A micro-operation that faults ends the run. -/
theorem runOps_cons_fault {i : Instr} {s : State} {f : Fault} (rest : List Instr) (h : exec i s = .fault f) :
    runOps (i :: rest) s = .fault f := by simp [runOps, h]

/-- A run that answers a next state answered one at its first micro-operation. -/
theorem runOps_cons_inv {i : Instr} {rest : List Instr} {s u : State} (h : runOps (i :: rest) s = .next u) :
    ∃ t, exec i s = .next t ∧ runOps rest t = .next u := by
  cases hi : exec i s with
  | next t => exact ⟨t, rfl, by simpa [runOps, hi] using h⟩
  | fault f => simp [runOps, hi] at h
  | refused r => simp [runOps, hi] at h

/-- Two lists in a row: the second runs from where the first ends. -/
theorem runOps_append_next {xs ys : List Instr} {s t : State} (h : runOps xs s = .next t) :
    runOps (xs ++ ys) s = runOps ys t := by
  induction xs generalizing s with
  | nil =>
    simp only [runOps_nil, Host.Outcome.next.injEq] at h
    simp [h]
  | cons i rest ih =>
    obtain ⟨u, hu, hr⟩ := runOps_cons_inv h
    rw [List.cons_append, runOps_cons_next _ hu]
    exact ih hr

/-- An invariant that every micro-operation of a list keeps is kept by the list. -/
theorem runOps_keeps {P : State → Prop} {xs : List Instr} {s t : State}
    (hk : ∀ i ∈ xs, ∀ u v, exec i u = .next v → P u → P v) (h : runOps xs s = .next t) (hs : P s) : P t := by
  induction xs generalizing s with
  | nil =>
    simp only [runOps_nil, Host.Outcome.next.injEq] at h
    exact h ▸ hs
  | cons i rest ih =>
    obtain ⟨u, hu, hr⟩ := runOps_cons_inv h
    exact ih (fun j hj => hk j (List.mem_cons_of_mem _ hj)) hr (hk i List.mem_cons_self s u hu hs)

/-! ### The cycle and the step -/

/-- What a cycle that answers a next state did. -/
theorem runCycle_next_inv {s t : State} (h : runCycle s = .next t) :
    ∃ u, runOps (microOps s.controlWord s.cur.ir) s.beginCycle = .next u ∧ t = u.swap := by
  unfold runCycle at h
  split at h
  · rename_i u hu
    exact ⟨u, hu, by simpa using h.symm⟩
  · simp at h
  · simp at h

/-- What a step that answers a next state did: the halt test passed, or one cycle ran (R227). -/
theorem step_next_inv {s t : State} (h : step s = .next t) :
    s.halted = false ∧ ((s.cur.pc = 0#16 ∧ t = s.halt) ∨ (s.cur.pc ≠ 0#16 ∧ runCycle s = .next t)) := by
  unfold step stepOnce at h
  split at h
  · simp at h
  · rename_i hh
    refine ⟨by simpa using hh, ?_⟩
    split at h
    · rename_i hp
      exact .inl ⟨hp, by simpa using h.symm⟩
    · rename_i hp
      exact .inr ⟨hp, h⟩

/-- A machine that is about to run a cycle steps by that cycle (R216). -/
theorem step_running {s : State} (hh : s.halted = false) (hp : s.cur.pc ≠ 0#16) : step s = runCycle s := by
  simp [step, stepOnce, hh, hp]

/-- A run of no steps. -/
theorem run_zero (s : State) : Sys2Proof.core.run 0 s = Host.Outcome.next s := rfl

/-- A run goes on from the state its first step answers. -/
theorem run_succ_next {k : Nat} {s t : State} (h : step s = .next t) :
    Sys2Proof.core.run (k + 1) s = Sys2Proof.core.run k t := by
  have e : Sys2Proof.core.step s = .next t := h
  have hr := Host.Core.run.eq_2 Sys2Proof.core s k
  rw [hr, e]

/-- A run ends in the fault of its first step. -/
theorem run_succ_fault {k : Nat} {s : State} {f : Fault} (h : step s = .fault f) :
    Sys2Proof.core.run (k + 1) s = Host.Outcome.fault f := by
  have e : Sys2Proof.core.step s = .fault f := h
  have hr := Host.Core.run.eq_2 Sys2Proof.core s k
  rw [hr, e]
  rfl

/-- A run ends in the refusal of its first step. -/
theorem run_succ_refused {k : Nat} {s : State} {r : Refusal} (h : step s = .refused r) :
    Sys2Proof.core.run (k + 1) s = Host.Outcome.refused r := by
  have e : Sys2Proof.core.step s = .refused r := h
  have hr := Host.Core.run.eq_2 Sys2Proof.core s k
  rw [hr, e]
  rfl

/-- A run that goes on for one more step. -/
theorem run_snoc {k : Nat} {s t u : State} (h : Sys2Proof.core.run k s = Host.Outcome.next t) (hu : step t = .next u) :
    Sys2Proof.core.run (k + 1) s = Host.Outcome.next u := by
  induction k generalizing s with
  | zero =>
    obtain rfl : s = t := Host.Outcome.next.inj h
    exact run_succ_next hu
  | succ k ih =>
    cases hs : step s with
    | next v =>
      rw [run_succ_next hs] at h ⊢
      exact ih h
    | fault f => exact nomatch (run_succ_fault hs).symm.trans h
    | refused r => exact nomatch (run_succ_refused hs).symm.trans h

/-! ### The host's operations -/

/-- The loop with no round left makes no halt test (R227, log 27). -/
@[simp] theorem runLoop_zero (s : State) : runLoop 0 s = .notEnded s := rfl

/-- A round whose halt test sees `PC = 0` ends the loop (R248). -/
theorem runLoop_halts (k : Nat) {s : State} (hp : s.cur.pc = 0#16) : runLoop (k + 1) s = .halted s.halt := by
  simp [runLoop, hp]

/-- A round whose cycle completes goes on from the state it answers (R227). -/
theorem runLoop_next (k : Nat) {s t : State} (hp : s.cur.pc ≠ 0#16) (h : runCycle s = .next t) :
    runLoop (k + 1) s = runLoop k t := by simp [runLoop, hp, h]

/-- A round whose cycle faults ends the loop (R227). -/
theorem runLoop_fault (k : Nat) {s : State} {f : Fault} (hp : s.cur.pc ≠ 0#16) (h : runCycle s = .fault f) :
    runLoop (k + 1) s = .faulted f := by simp [runLoop, hp, h]

/-- The halt test changes nothing that a dump shows but `halted`. -/
theorem dump_halt (s : State) : dumpRegistersAndBus s.halt = { dumpRegistersAndBus s with halted := true } := rfl

/-! ### The memory timing unit -/

/-- Counting short of the last wait cycle stages no change of `READY` (R120, R121). -/
theorem countAccess_not_last (s : State) (h : s.memCounter + 1 ≠ s.memCycles - 1) :
    countAccess s = s.withMemCounter (s.memCounter + 1) := by
  have hb : (s.memCounter + 1 == s.memCycles - 1) = false := by simpa using h
  simp [countAccess, hb, State.withNxt, State.withMemCounter]

/-- Counting the last wait cycle stages `READY` (R121). -/
theorem countAccess_last (s : State) (h : s.memCounter + 1 = s.memCycles - 1) :
    countAccess s = (s.withMemCounter (s.memCounter + 1)).withNxt { s.nxt with ready := true } := by
  simp [countAccess, h]

end Sys2Proof.Machine
end

