-- ==== Sys2Proof/Laws/PerInstr.lean ====
section
/-! SUPPORT. Facts stated once for each instruction.

`SlotDecodesEncoding`: the field an instruction belongs to reads the instruction back from its encoding, with every
operand at every value. -/

namespace Sys2Proof.Laws.SlotDecodesEncoding

/-- Decoding an instruction's field in its own encoding gives the instruction. -/
def Statement (i : Instr) : Prop := decodeSlot (slotOf i) (encodeCw i) (encodeIr i) = some i

/-- A placed `J` operand is read back, and no bit outside 31:26 is touched. -/
theorem placeJ_fields (j : MicroState) (k : Nat) (hk : k < 35) :
    (placeJ j).getLsbD k = (decide (26 ≤ k) && j.getLsbD (k - 26)) := by
  unfold placeJ
  by_cases h : 26 ≤ k
  · have h2 : ¬ k < 26 := by omega
    simp only [BitVec.getLsbD_shiftLeft, BitVec.truncate_eq_setWidth, BitVec.getLsbD_setWidth]
    simp only [hk, h2, h]
    simp
    intro _
    omega
  · have h2 : k < 26 := by omega
    simp [h, h2]

/-- `J` of any word that ORs a placed operand into zeros is the operand. -/
theorem cwJ_placeJ (j : MicroState) (c : ControlWord) (hc : cwJ c = 0#6) : cwJ (c ||| placeJ j) = j := by
  apply BitVec.eq_of_getLsbD_eq
  intro k hk
  have hc' : (cwJ c).getLsbD k = false := by rw [hc]; simp
  simp only [cwJ, BitVec.getLsbD_extractLsb', hk, BitVec.getLsbD_or, decide_true, Bool.true_and] at hc' ⊢
  rw [hc', placeJ_fields j (26 + k) (by omega)]
  simp

/-- `COND` does not see a placed `J`. -/
theorem cwCond_placeJ (j : MicroState) (c : ControlWord) : cwCond (c ||| placeJ j) = cwCond c := by
  apply BitVec.eq_of_getLsbD_eq
  intro k hk
  simp only [cwCond, BitVec.getLsbD_extractLsb', hk, BitVec.getLsbD_or, decide_true, Bool.true_and]
  rw [placeJ_fields j (32 + k) (by omega), BitVec.getLsbD_of_ge j (32 + k - 26) (by omega)]
  simp

/-- `IRD` does not see a placed `J`. -/
theorem cwIrd_placeJ (j : MicroState) (c : ControlWord) : cwIrd (c ||| placeJ j) = cwIrd c := by
  simp only [cwIrd, BitVec.getLsbD_or]
  rw [placeJ_fields j 34 (by omega), BitVec.getLsbD_of_ge j (34 - 26) (by omega)]
  simp

theorem seqDispatch : Statement (.seqDispatch) := rfl

theorem seqJ (j : MicroState) : Statement (.seqJ j) := by
  have hi := cwIrd_placeJ j 0x000000000#35
  have hc := cwCond_placeJ j 0x000000000#35
  have hj := cwJ_placeJ j 0x000000000#35 (by decide)
  have hi' : cwIrd 0x000000000#35 = false := by decide
  have hc' : cwCond 0x000000000#35 = 0#2 := by decide
  simp only [Statement, slotOf, decodeSlot, encodeCw, pattern, seqOf, hi, hi', hc, hc', hj]
  simp

theorem seqJOrReady (j : MicroState) : Statement (.seqJOrReady j) := by
  have hi := cwIrd_placeJ j 0x100000000#35
  have hc := cwCond_placeJ j 0x100000000#35
  have hj := cwJ_placeJ j 0x100000000#35 (by decide)
  have hi' : cwIrd 0x100000000#35 = false := by decide
  have hc' : cwCond 0x100000000#35 = 1#2 := by decide
  simp only [Statement, slotOf, decodeSlot, encodeCw, pattern, seqOf, hi, hi', hc, hc', hj]
  simp

theorem seqJOrBen (j : MicroState) : Statement (.seqJOrBen j) := by
  have hi := cwIrd_placeJ j 0x200000000#35
  have hc := cwCond_placeJ j 0x200000000#35
  have hj := cwJ_placeJ j 0x200000000#35 (by decide)
  have hi' : cwIrd 0x200000000#35 = false := by decide
  have hc' : cwCond 0x200000000#35 = 2#2 := by decide
  simp only [Statement, slotOf, decodeSlot, encodeCw, pattern, seqOf, hi, hi', hc, hc', hj]
  simp

theorem seqJOrIr11 (j : MicroState) : Statement (.seqJOrIr11 j) := by
  have hi := cwIrd_placeJ j 0x300000000#35
  have hc := cwCond_placeJ j 0x300000000#35
  have hj := cwJ_placeJ j 0x300000000#35 (by decide)
  have hi' : cwIrd 0x300000000#35 = false := by decide
  have hc' : cwCond 0x300000000#35 = 3#2 := by decide
  simp only [Statement, slotOf, decodeSlot, encodeCw, pattern, seqOf, hi, hi', hc, hc', hj]
  simp

theorem ldMar : Statement (.ldMar) := rfl

theorem ldMdrMem : Statement (.ldMdrMem) := rfl

theorem ldMdrBusWord : Statement (.ldMdrBusWord) := rfl

theorem ldMdrBusByte : Statement (.ldMdrBusByte) := rfl

theorem ldIr : Statement (.ldIr) := rfl

theorem ldBen : Statement (.ldBen) := rfl

theorem ldReg : Statement (.ldReg) := rfl

theorem ldCc : Statement (.ldCc) := rfl

theorem ldPcPlus2 : Statement (.ldPcPlus2) := rfl

theorem ldPcBus : Statement (.ldPcBus) := rfl

theorem ldPcAddrSum : Statement (.ldPcAddrSum) := rfl

theorem ldPcReserved : Statement (.ldPcReserved) := rfl

theorem gateMarmux : Statement (.gateMarmux) := rfl

theorem gatePc : Statement (.gatePc) := rfl

theorem gateAlu : Statement (.gateAlu) := rfl

theorem gateShf : Statement (.gateShf) := rfl

theorem gateMdr : Statement (.gateMdr) := rfl

theorem busNone : Statement (.busNone) := rfl

theorem drmuxIr11To9 : Statement (.drmuxIr11To9) := rfl

theorem drmuxR7 : Statement (.drmuxR7) := rfl

theorem sr1muxIr11To9 : Statement (.sr1muxIr11To9) := rfl

theorem sr1muxIr8To6 : Statement (.sr1muxIr8To6) := rfl

theorem addr1muxPc : Statement (.addr1muxPc) := rfl

theorem addr1muxSr1 : Statement (.addr1muxSr1) := rfl

theorem addr2muxZero : Statement (.addr2muxZero) := rfl

theorem addr2muxOff6 : Statement (.addr2muxOff6) := rfl

theorem addr2muxOff9 : Statement (.addr2muxOff9) := rfl

theorem addr2muxOff11 : Statement (.addr2muxOff11) := rfl

theorem lshf1 : Statement (.lshf1) := rfl

theorem marmuxTrapvect : Statement (.marmuxTrapvect) := rfl

theorem marmuxAddrSum : Statement (.marmuxAddrSum) := rfl

theorem aluAdd : Statement (.aluAdd) := rfl

theorem aluAnd : Statement (.aluAnd) := rfl

theorem aluXor : Statement (.aluXor) := rfl

theorem aluPassa : Statement (.aluPassa) := rfl

theorem mdrCandWord : Statement (.mdrCandWord) := rfl

theorem mdrCandByte : Statement (.mdrCandByte) := rfl

theorem memIdle : Statement (.memIdle) := rfl

theorem memRead : Statement (.memRead) := rfl

theorem memWriteWord : Statement (.memWriteWord) := rfl

theorem memWriteByte : Statement (.memWriteByte) := rfl

theorem irDispatch (opcode : BitVec 4) : Statement (.irDispatch opcode) := by
  revert opcode
  unfold Statement
  decide

theorem irCondBit11 (ir11 : Bool) : Statement (.irCondBit11 ir11) := by cases ir11 <;> rfl

theorem irBenNzp (n : Bool) (z : Bool) (p : Bool) : Statement (.irBenNzp n z p) := by cases n <;> cases z <;> cases p <;> rfl

theorem irSr2Reg (sr2 : RegIdx) : Statement (.irSr2Reg sr2) := by
  revert sr2
  unfold Statement
  decide

theorem irSr2Imm5 (imm5 : BitVec 5) : Statement (.irSr2Imm5 imm5) := by
  revert imm5
  unfold Statement
  decide

theorem irShfLshf (amount4 : BitVec 4) : Statement (.irShfLshf amount4) := by
  revert amount4
  unfold Statement
  decide

theorem irShfRshfl (amount4 : BitVec 4) : Statement (.irShfRshfl amount4) := by
  revert amount4
  unfold Statement
  decide

theorem irShfRshfa (amount4 : BitVec 4) : Statement (.irShfRshfa amount4) := by
  revert amount4
  unfold Statement
  decide

end Sys2Proof.Laws.SlotDecodesEncoding
end

