-- ==== Sys2Proof/Tests/Slice0.lean ====
section
/-! SUPPORT. The model's own tests: the WellFormed smoke tests, words written out bit by bit from R70 and R74 with the
rows they decode to, single steps whose expected values are those of spec/95_test_vectors.md (the vector is named), and
for every obligation with hypotheses a concrete state and operands that meet them (`witness_<name of the obligation>`). -/

namespace Sys2Proof.Tests

open Sys2Proof Sys2Proof.Machine

/-! ## Helpers -/

/-- The reset latches with `PC`, `IR`, `MAR` and `MDR` set. -/
def latches (pc ir mar mdr : Word) : Latches := { State.reset.cur with pc := pc, ir := ir, mar := mar, mdr := mdr }

/-- Latches with one register set. -/
def setReg (l : Latches) (i : RegIdx) (v : Word) : Latches := { l with regs := regWrite l.regs i v }

/-- A state at a cycle boundary: the reset state with these latches, row 18 of the control store holding the word. -/
def at18 (cw : ControlWord) (l : Latches) : State :=
  { State.reset with
    cur := { l with microinstruction := cw }
    nxt := { l with microinstruction := cw }
    controlStore := State.reset.controlStore.set 18 cw }

/-- The same in the last cycle of an access: `READY` is 1 and the counter stands at `MEM_CYCLES - 1`. -/
def lastCycle (cw : ControlWord) (l : Latches) : State :=
  { at18 cw { l with ready := true } with memCounter := 4 }

/-- The step answers a next state. -/
def completes (s : State) : Bool := match step s with | .next _ => true | .fault _ => false | .refused _ => false

/-- The next state, where there is one. -/
def after (s : State) : State := match step s with | .next t => t | .fault _ => s | .refused _ => s

/-- A completing step answers the state `after` names. -/
theorem step_after {s : State} (h : completes s = true) : step s = .next (after s) := by
  unfold completes at h
  unfold after
  split at h <;> simp_all

/-- The micro-operation's own state: the reset state with nets in place of the idle ones. -/
def withNet (w : Nets) : State := { State.reset with nets := w }

/-! ## WellFormed -/

theorem test_reserved_select_is_ill_formed : Instr.ldPcReserved.wellFormed = false := by decide

theorem test_other_selects_are_well_formed :
    Instr.ldPcPlus2.wellFormed = true ∧ (Instr.seqJ 63#6).wellFormed = true ∧
    (Instr.irShfRshfa 15#4).wellFormed = true := by decide

/-- R77: `LD_PC` with `PCMUX = 11` is ill-formed; without `LD_PC` it is not (C18). -/
theorem test_ill_formed_control_word :
    cwIllFormed 0b00000000000000010000011000000000000#35 = true ∧
    cwIllFormed 0b00000000000000000000011000000000000#35 = false ∧
    cwIllFormed 0b00000000000000010000010000000000000#35 = false := by decide

/-! ## Decoding: words written out from R70 and R74 -/

theorem test_decode_next_address :
    Instr.seqDispatch ∈ microOps 0b11111111100000000000000000000000000#35 0#16 ∧
    Instr.seqJ 21#6 ∈ microOps 0b00001010100000000000000000000000000#35 0#16 ∧
    Instr.seqJOrReady 33#6 ∈ microOps 0b00110000100000000000000000000000000#35 0#16 ∧
    Instr.seqJOrBen 18#6 ∈ microOps 0b01001001000000000000000000000000000#35 0#16 ∧
    Instr.seqJOrIr11 20#6 ∈ microOps 0b01101010000000000000000000000000000#35 0#16 ∧
    Instr.sr1muxIr11To9 ∈ microOps 0b00000000000000000000000000000000000#35 0#16 ∧
    Instr.sr1muxIr8To6 ∈ microOps 0b00000000000000000000000010000000000#35 0#16 := by
  decide

theorem test_decode_memory :
    Instr.memIdle ∈ microOps 0b00000000000000000000000000000000100#35 0#16 ∧
    Instr.memRead ∈ microOps 0b00000000000000000000000000000001010#35 0#16 ∧
    Instr.memWriteWord ∈ microOps 0b00000000000000000000000000000001110#35 0#16 ∧
    Instr.memWriteByte ∈ microOps 0b00000000000000000000000000000001100#35 0#16 := by
  decide

theorem test_decode_evaluator :
    Instr.mdrCandWord ∈ microOps 0b00000000000000000000000000000000010#35 0#16 ∧
    Instr.mdrCandByte ∈ microOps 0b00000000000000000000000000000000000#35 0#16 ∧
    Instr.addr1muxPc ∈ microOps 0b00000000000000000000000000000000000#35 0#16 ∧
    Instr.addr1muxSr1 ∈ microOps 0b00000000000000000000000001000000000#35 0#16 ∧
    Instr.addr2muxZero ∈ microOps 0b00000000000000000000000000000000000#35 0#16 ∧
    Instr.addr2muxOff6 ∈ microOps 0b00000000000000000000000000010000000#35 0#16 ∧
    Instr.addr2muxOff9 ∈ microOps 0b00000000000000000000000000100000000#35 0#16 ∧
    Instr.addr2muxOff11 ∈ microOps 0b00000000000000000000000000110000000#35 0#16 ∧
    Instr.lshf1 ∈ microOps 0b00000000000000000000000000000000001#35 0#16 ∧
    Instr.marmuxTrapvect ∈ microOps 0b00000000000000000000000000000000000#35 0#16 ∧
    Instr.marmuxAddrSum ∈ microOps 0b00000000000000000000000000001000000#35 0#16 := by
  decide

theorem test_decode_alu_and_destination :
    Instr.aluAdd ∈ microOps 0b00000000000000000000000000000000000#35 0#16 ∧
    Instr.aluAnd ∈ microOps 0b00000000000000000000000000000010000#35 0#16 ∧
    Instr.aluXor ∈ microOps 0b00000000000000000000000000000100000#35 0#16 ∧
    Instr.aluPassa ∈ microOps 0b00000000000000000000000000000110000#35 0#16 ∧
    Instr.drmuxIr11To9 ∈ microOps 0b00000000000000000000000000000000000#35 0#16 ∧
    Instr.drmuxR7 ∈ microOps 0b00000000000000000000000100000000000#35 0#16 := by
  decide

theorem test_decode_bus :
    Instr.gateMarmux ∈ microOps 0b00000000000000001111100000000000000#35 0#16 ∧
    Instr.gatePc ∈ microOps 0b00000000000000001110100000000000000#35 0#16 ∧
    Instr.gateAlu ∈ microOps 0b00000000000000000110100000000000000#35 0#16 ∧
    Instr.gateShf ∈ microOps 0b00000000000000000100100000000000000#35 0#16 ∧
    Instr.gateMdr ∈ microOps 0b00000000000000000100000000000000000#35 0#16 ∧
    Instr.busNone ∈ microOps 0b00000000000000000000000000000000000#35 0#16 := by
  decide

theorem test_decode_loads :
    Instr.ldMar ∈ microOps 0b00000000010000000000000000000000000#35 0#16 ∧
    Instr.ldMdrMem ∈ microOps 0b00000000001000000000000000000001000#35 0#16 ∧
    Instr.ldMdrBusWord ∈ microOps 0b00000000001000000000000000000000010#35 0#16 ∧
    Instr.ldMdrBusByte ∈ microOps 0b00000000001000000000000000000000000#35 0#16 ∧
    Instr.ldIr ∈ microOps 0b00000000000100000000000000000000000#35 0#16 ∧
    Instr.ldBen ∈ microOps 0b00000000000010000000000000000000000#35 0#16 ∧
    Instr.ldReg ∈ microOps 0b00000000000001000000000000000000000#35 0#16 ∧
    Instr.ldCc ∈ microOps 0b00000000000000100000000000000000000#35 0#16 ∧
    Instr.ldPcPlus2 ∈ microOps 0b00000000000000010000000000000000000#35 0#16 ∧
    Instr.ldPcBus ∈ microOps 0b00000000000000010000001000000000000#35 0#16 ∧
    Instr.ldPcAddrSum ∈ microOps 0b00000000000000010000010000000000000#35 0#16 ∧
    Instr.ldPcReserved ∈ microOps 0b00000000000000010000011000000000000#35 0#16 := by
  decide

theorem test_decode_instruction_register :
    Instr.irDispatch 12#4 ∈ microOps 0#35 0b1100000111000000#16 ∧
    Instr.irCondBit11 true ∈ microOps 0#35 0b0100100000000010#16 ∧
    Instr.irBenNzp false false true ∈ microOps 0#35 0b0000001111111100#16 ∧
    Instr.irSr2Reg 4#3 ∈ microOps 0#35 0b0001011011000100#16 ∧
    Instr.irSr2Imm5 31#5 ∈ microOps 0#35 0b0001001001111111#16 ∧
    Instr.irShfLshf 1#4 ∈ microOps 0#35 0b1101010010000001#16 ∧
    Instr.irShfRshfl 4#4 ∈ microOps 0#35 0b1101011010010100#16 ∧
    Instr.irShfRshfa 2#4 ∈ microOps 0#35 0b1101011010110010#16 := by
  decide

/-- The encoder's words of two rows with operands are the bits of R70 and R74. -/
theorem test_encode :
    encodeCw (.seqJOrReady 33#6) = 0b00110000100000000000000000000000000#35 ∧
    encodeIr (.irSr2Imm5 31#5) = 0b0000000000111111#16 := by decide

/-- The host's question, one word at a time: bit 0 is the least significant bit. -/
theorem test_decode_table_word :
    decodeTableWord 40 0b00110000100000000000000000000000000 = some (.seqJOrReady 33#6) ∧
    decodeTableWord 24 0b000010000000000000000000 = some .ldPcPlus2 ∧
    decodeTableWord 16 0b110001 = some (.irShfRshfa 1#4) ∧
    decodeTableWord 40 (2 ^ 35) = none := by decide

/-- R71, H8: a row of 36 characters is read by its first 35; a row of 34, or one with a `2`, is rejected. -/
theorem test_row_text :
    decodeRow "00110000101000000000000000000000000".toList = some 0b00110000101000000000000000000000000#35 ∧
    (decodeRow "001100001010000000000000000000000001".toList).isSome = true ∧
    decodeRow "0011000010100000000000000000000000".toList = none ∧
    decodeRow "00110000101000000200000000000000000".toList = none := by decide

/-- R82: the words of an image file. -/
theorem test_image_words :
    readWords ["0x3000".toList, "xC000".toList, "1265".toList] = .ok [0x3000#16, 0xC000#16, 0x1265#16] ∧
    readWords ["12345".toList] = .error .malformedWord ∧ readWords ["0x".toList] = .error .truncatedProgram ∧
    readWords ["0xG".toList] = .error .malformedWord := by decide

/-! ## Single steps, with the values of spec/95_test_vectors.md -/

/-- S10 and S11, on fixture row 4: `IR[11]` is injected into `J = 20`. -/
theorem test_step_branch_on_ir11 :
    (after (at18 0b01101010000000000000000000000000000#35 (latches 0x3002 0x4802 0 0))).cur.stateNumber = 21#6 ∧
    (after (at18 0b01101010000000000000000000000000000#35 (latches 0x3002 0x4000 0 0))).cur.stateNumber = 20#6 := by
  decide

/-- S2: the dispatch overrides `COND` and `J`. -/
theorem test_step_dispatch :
    (after (at18 0b11111111100000000000000000000000000#35 (latches 0x3002 0x1265 0 0))).cur.stateNumber = 1#6 := by
  decide

/-- S7 and S8, on fixture row 0: `BEN` is injected into `J = 18`. -/
theorem test_step_branch_on_ben :
    (after (at18 0b01001001000000000000000000000000000#35 { latches 0x3002 0 0 0 with ben := true })).cur.stateNumber
      = 22#6 ∧
    (after (at18 0b01001001000000000000000000000000000#35 (latches 0x3002 0 0 0))).cur.stateNumber = 18#6 := by
  decide

/-- The fetch row 18 of H2: the old `PC` goes to `MAR`, `PC` advances, and one cycle is counted. -/
theorem test_step_fetch :
    (after (at18 0b00010000110000011000000000000000000#35 (latches 0x3000 0 0 0))).cur.mar = 0x3000#16 ∧
    (after (at18 0b00010000110000011000000000000000000#35 (latches 0x3000 0 0 0))).cur.pc = 0x3002#16 ∧
    (after (at18 0b00010000110000011000000000000000000#35 (latches 0x3000 0 0 0))).cycleCount = 1 := by decide

/-- L1-8, on fixture row 1: `ADD R1, R1, #-1` with `R1 = 5` gives 4 and the flag `P`. -/
theorem test_step_add :
    regRead (after (at18 0b00001001000001100010000010000000000#35
      (setReg (latches 0x3004 0x127F 0 0) 1#3 5#16))).cur.regs 1#3 = 4#16 ∧
    (after (at18 0b00001001000001100010000010000000000#35
      (setReg (latches 0x3004 0x127F 0 0) 1#3 5#16))).cur.p = true := by decide

/-- E14 and E5, on fixture row 14: `LEA R2, #6` at `PC = x3002` gives `x300E` and no flag. -/
theorem test_step_lea :
    regRead (after (at18 0b00001001000001000001000000101000001#35 (latches 0x3002 0xE406 0 0))).cur.regs 2#3
      = 0x300E#16 ∧
    (after (at18 0b00001001000001000001000000101000001#35 (latches 0x3002 0xE406 0 0))).cur.z = true := by decide

/-- E27, on fixture row 13: `RSHFA R3, R2, #2` of `x000E` gives 3. -/
theorem test_step_shift :
    regRead (after (at18 0b00001001000001100000100010000000000#35
      (setReg (latches 0x300C 0xD6B2 0 0) 2#3 0x000E#16))).cur.regs 3#3 = 3#16 := by decide

/-- E12, on fixture row 15: the trap vector of `xF025`. -/
theorem test_step_trap_vector :
    (after (at18 0b00001110010000000001000000000000000#35 (latches 0x3002 0xF025 0 0))).cur.mar = 0x004A#16 := by
  decide

/-- Z3, on fixture row 20: `JSRR R7` jumps to the old `R7` and links the old `PC`. -/
theorem test_step_jsrr_r7 :
    (after (at18 0b00001001000001011000010111000000000#35
      (setReg (latches 0x3002 0x41C0 0 0) 7#3 0x4000#16))).cur.pc = 0x4000#16 ∧
    regRead (after (at18 0b00001001000001011000010111000000000#35
      (setReg (latches 0x3002 0x41C0 0 0) 7#3 0x4000#16))).cur.regs 7#3 = 0x3002#16 := by decide

/-- E6, on fixture row 22: the taken branch at `PC = x300A` with offset -4 words goes to `x3002`. -/
theorem test_step_branch_taken :
    (after (at18 0b00001001000000010000010000100000001#35 (latches 0x300A 0x03FC 0 0))).cur.pc = 0x3002#16 := by decide

/-- C5 and C6, on fixture row 24: the store data of `STB` at an odd and at an even address. -/
theorem test_step_byte_store_data :
    (after (at18 0b00001000101000000010000000000110000#35
      (setReg (latches 0x300C 0x3885 0x3013 0) 4#3 0xFF80#16))).cur.mdr = 0x8080#16 ∧
    (after (at18 0b00001000101000000010000000000110000#35
      (setReg (latches 0x300C 0x3885 0x3012 0) 4#3 0xFF80#16))).cur.mdr = 0xFF80#16 := by decide

/-- C12: `LD_BEN` with `LD_CC` computes `BEN` from the old `Z`, and the flags become `P` (bus `x0005`). -/
theorem test_step_ben_from_old_flags :
    (after (at18 0b00000000000010101000000000000000000#35 (latches 0x0005 0x0400 0 0))).cur.ben = true ∧
    (after (at18 0b00000000000010101000000000000000000#35 (latches 0x0005 0x0400 0 0))).cur.p = true := by decide

/-- M2 and M4, on fixture rows 16 and 17: a word write, and a byte write at an even address that keeps the other
byte. -/
theorem test_step_writes :
    (after (lastCycle 0b00101000000000000000000000000001110#35 (latches 0x300A 0 0x3010 0x8070))).mem
      = [(0x3010, 0x70#8), (0x3011, 0x80#8)] ∧
    (after { lastCycle 0b00101000100000000000000000000001100#35 (latches 0x300A 0 0x3012 0xFF80) with
      mem := [(0x3012, 0x34#8), (0x3013, 0x12#8)] }).mem = [(0x3012, 0x80#8), (0x3013, 0x12#8)] := by decide

/-- M1, cycle 5, on fixture row 33: the read completes, and the row is left by `J OR 2`. -/
theorem test_step_read :
    (after { lastCycle 0b00110000101000000000000000000001010#35 (latches 0x3002 0 0x3000 0) with
      mem := [(0x3001, 0xC0#8)] }).cur.mdr = 0xC000#16 ∧
    (after { lastCycle 0b00110000101000000000000000000001010#35 (latches 0x3002 0 0x3000 0) with
      mem := [(0x3001, 0xC0#8)] }).cur.stateNumber = 35#6 := by decide

/-- M1, cycle 4: the fourth cycle of the access raises `READY` for the fifth. -/
theorem test_step_last_wait :
    (after { at18 0b00110000101000000000000000000001010#35 (latches 0x3002 0 0x3000 0) with
      memCounter := 3 }).cur.ready = true ∧
    (after { at18 0b00110000101000000000000000000001010#35 (latches 0x3002 0 0x3000 0) with
      memCounter := 2 }).cur.ready = false := by decide

/-- E3, on fixture row 27 with `DATA_SIZE = 0`: the sign-extended high byte at an odd address, and the flag `N`. -/
theorem test_step_load_byte :
    regRead (after (at18 0b00001001000001100100000000000000000#35 (latches 0x3006 0x2881 0x300F 0x80F0))).cur.regs 4#3
      = 0xFF80#16 ∧
    (after (at18 0b00001001000001100100000000000000000#35 (latches 0x3006 0x2881 0x300F 0x80F0))).cur.n = true := by
  decide

/-- R79: the all-zero row drives nothing, loads nothing and goes to state 0. -/
theorem test_step_all_zero_row :
    (after (at18 0#35 (latches 0x3000 0 0 0))).cur.stateNumber = 0#6 ∧
    (after (at18 0#35 (latches 0x3000 0 0 0))).lastBus = 0#16 := by decide

/-- E29: `IR[5:4] = 10` is the left shift. -/
theorem test_shift_select : irShfOf 0b0000000000100100#16 = .irShfLshf 4#4 ∧ shiftLeft 0xF000#16 4#4 = 0#16 := by decide

/-- E24, E25, E26, E30: the shifts at their corners. -/
theorem test_shift_corners :
    shiftRightLogical 0x8000#16 15#4 = 1#16 ∧ shiftRightArith 0x8000#16 15#4 = 0xFFFF#16 ∧
    shiftRightArith 0x7FFF#16 4#4 = 0x07FF#16 ∧ shiftLeft 0x0003#16 15#4 = 0x8000#16 := by decide

/-- E9, E13, E16: the immediates at their corners. -/
theorem test_immediates :
    off6Value 0x0020#16 = 0xFFE0#16 ∧ trapvectValue 0xF0FF#16 = 0x01FE#16 ∧ imm5Value 0x10#5 = 0xFFF0#16 ∧
    off9Value 0x0100#16 = 0xFF00#16 ∧ off11Value 0x0400#16 = 0xFC00#16 := by decide

/-- L1-6: the flags of the five bus values. -/
theorem test_flags :
    (flagN 0x0000, flagZ 0x0000, flagP 0x0000) = (false, true, false) ∧
    (flagN 0x0001, flagZ 0x0001, flagP 0x0001) = (false, false, true) ∧
    (flagN 0x7FFF, flagZ 0x7FFF, flagP 0x7FFF) = (false, false, true) ∧
    (flagN 0x8000, flagZ 0x8000, flagP 0x8000) = (true, false, false) ∧
    (flagN 0xFFFF, flagZ 0xFFFF, flagP 0xFFFF) = (true, false, false) := by decide

/-- L1-3 and L1-4: words and bytes of memory. -/
theorem test_memory :
    memReadWord (memWriteWord [] 0x4001 0x1234) 0x4000 = 0x1234#16 ∧
    memReadWord (memWriteByte (memWriteWord [] 0x3012 0x1234) 0x3013 0x80) 0x3012 = 0x8034#16 ∧
    memWriteWord (memWriteWord [] 0x4000 0xABCD) 0x4000 0 = [] := by decide

/-- H6 and H7: an odd base is rounded down, and the size test at the top of memory. -/
theorem test_image :
    loadImage [0x3001#16, 0xC000#16] = .ok (0x3001#16, [(0x3001, 0xC0#8)]) ∧
    loadAddress 0x3001#16 = 0x3000#16 ∧
    loadImage [0xFFFE#16, 1#16, 2#16] = .error .programTooLarge ∧
    loadImage [0xFFFE#16, 0x0101#16] = .ok (0xFFFE#16, [(0xFFFE, 1#8), (0xFFFF, 1#8)]) := by decide

/-- `withFetchWord` from reset: the very next step runs the word (LD_PC_PLUS2, and `J = 0`). -/
theorem test_fetch_word_from_reset :
    (after (State.reset.withFetchWord 24 0x080000)).cur.pc = 0x3002#16 ∧
    (after (State.reset.withFetchWord 24 0x080000)).cur.stateNumber = 0#6 := by decide

/-! ## Witnesses: states and operands that meet the hypotheses of the obligations, clause by clause -/

/-- RowsOfOneFieldExcludeEachOther. -/
theorem witness_RowsOfOneFieldExcludeEachOther :
    slotOf .memRead = slotOf .memRead ∧ (pattern .memRead).fits 0b1000#35 0#16 = true ∧
    slotOf (.irSr2Imm5 31#5) = slotOf (.irSr2Imm5 31#5) ∧ (pattern (.irSr2Imm5 31#5)).fits 0#35 0x127F#16 = true := by
  decide

/-- A row of the control-store file, all zeros. -/
def zeroLine : List Char := List.replicate 35 '0'

/-- ControlStoreRowAcceptance: 63 rows; a bad row 63 and a bad row 0 of 64; 64 accepted rows; row 63 too long. -/
theorem witness_ControlStoreRowAcceptance :
    (List.replicate 63 zeroLine).length < 64 ∧
    (64 ≤ (List.replicate 63 zeroLine ++ [['2']]).length ∧
      (List.replicate 63 zeroLine ++ [['2']])[63]? = some ['2'] ∧ decodeRow ['2'] = none) ∧
    (64 ≤ (['2'] :: List.replicate 63 zeroLine).length ∧
      (['2'] :: List.replicate 63 zeroLine)[0]? = some ['2']) ∧
    (64 ≤ (List.replicate 64 zeroLine).length ∧
      ∀ line ∈ (List.replicate 64 zeroLine).take 64, (decodeRow line).isSome = true) ∧
    (63 ∈ rowWarnings (List.replicate 63 zeroLine ++ [zeroLine ++ ['x']]) ∧
      62 ∉ rowWarnings (List.replicate 63 zeroLine ++ [zeroLine ++ ['x']])) := by
  refine ⟨by decide, by decide, by decide, ⟨by decide, ?_⟩, by decide⟩
  intro line h
  rw [List.eq_of_mem_replicate (List.mem_of_mem_take h)]
  decide

/-- Sixty-four zero rows load. -/
theorem zero_rows_load :
    loadControlStore (List.replicate 64 zeroLine) = .ok (Vector.replicate 64 0#35) := by decide +kernel

/-- ControlStoreLinesBecomeRows: the loaded store, the last line and its last character. -/
theorem witness_ControlStoreLinesBecomeRows :
    loadControlStore (List.replicate 64 zeroLine) = .ok (Vector.replicate 64 0#35) ∧
    (List.replicate 64 zeroLine)[63]? = some zeroLine ∧ (34 : Nat) < 35 :=
  ⟨zero_rows_load, by decide, by decide⟩

/-- The well-formed word of a plain cycle, the fetch row 18, and the state that runs it. -/
def fetchState : State := at18 0b00010000110000011000000000000000000#35 (latches 0x3000 0 0 0)

/-- A state whose control word is ill-formed (H5). -/
def illState : State := at18 0b00000000000000010000011000000000000#35 (latches 0x3000 0 0 0)

/-- The fetch state is about to run a cycle, and completes it. -/
theorem fetch_runs : Running fetchState ∧ step fetchState = .next (after fetchState) :=
  ⟨⟨rfl, by decide⟩, step_after (by decide)⟩

/-- A step that faults. -/
def faults (s : State) : Bool := match step s with | .next _ => false | .fault _ => true | .refused _ => false

/-- A faulting step answers some fault. -/
theorem step_faults {s : State} (h : faults s = true) : ∃ f, step s = .fault f := by
  unfold faults at h
  split at h
  · simp at h
  · exact ⟨_, by assumption⟩
  · simp at h

/-- StepRunsTheDecodedMicroOps: a running state whose rows complete, one whose rows fault, and the largest word. -/
theorem witness_StepRunsTheDecodedMicroOps :
    (Running fetchState ∧
      ∃ t, runOps (microOps fetchState.cur.microinstruction fetchState.cur.ir) fetchState.beginCycle = .next t) ∧
    (Running illState ∧
      ∃ f, runOps (microOps illState.cur.microinstruction illState.cur.ir) illState.beginCycle = .fault f) ∧
    (2 ^ 35 - 1 < 2 ^ 35 ∧ Running State.reset) := by
  refine ⟨⟨fetch_runs.1, ?_⟩, ⟨⟨rfl, by decide⟩, ?_⟩, by decide, rfl, by decide⟩
  · obtain ⟨u, hu, -⟩ := runCycle_next_inv ((step_running rfl (by decide)).symm.trans fetch_runs.2)
    exact ⟨u, hu⟩
  · obtain ⟨f, hf⟩ := step_faults (s := illState) (by decide)
    rw [step_running rfl (by decide)] at hf
    unfold runCycle at hf
    split at hf
    · simp at hf
    · exact ⟨_, by assumption⟩
    · simp at hf

/-- Fixture row 33 in its first wait cycle, and the same with an ill-formed `PC` select beside it. -/
def waitState : State := at18 0b00110000101000000000000000000001010#35 (latches 0x3002 0 0x3000 0)

/-- A wait cycle whose word is ill-formed too. -/
def illWaitState : State := at18 0b00110000101000010000011000000001010#35 (latches 0x3002 0 0x3000 0)

/-- StepIsTheCycleInOnePiece: a running state in no wait, one in a wait, and one that faults in a wait. -/
theorem witness_StepIsTheCycleInOnePiece :
    (Running fetchState ∧ waitsForMdr fetchState.cur.microinstruction fetchState.cur = false) ∧
    (Running waitState ∧ waitsForMdr waitState.cur.microinstruction waitState.cur = true ∧
      completes waitState = true) ∧
    (Running illWaitState ∧ waitsForMdr illWaitState.cur.microinstruction illWaitState.cur = true ∧
      faults illWaitState = true) :=
  ⟨⟨⟨rfl, by decide⟩, by decide⟩, ⟨⟨rfl, by decide⟩, by decide, by decide⟩, ⟨⟨rfl, by decide⟩, by decide, by decide⟩⟩

/-- The boundary invariant of a state that `at18` builds from latches with one flag and `READY` 0. -/
theorem at18_inv (cw : ControlWord) (l : Latches) (hs : l.stateNumber = 18#6) (hn : l.n = false) (hz : l.z = true)
    (hp : l.p = false) (hr : l.ready = false) : BoundaryInv (at18 cw l) where
  staged := rfl
  netsIdle := rfl
  fetched := by simp [at18, hs]
  oneFlag := by simp [at18, hn, hz, hp]
  latency := (by decide : 2 ≤ 5)
  counter := Nat.zero_le _
  ready := by simp only [at18, hr]; decide
  memory := rfl
  haltedAtZero := by intro h; cases h

/-- The same in the last cycle of an access. -/
theorem lastCycle_inv (cw : ControlWord) (l : Latches) (hs : l.stateNumber = 18#6) (hn : l.n = false)
    (hz : l.z = true) (hp : l.p = false) : BoundaryInv (lastCycle cw l) where
  staged := rfl
  netsIdle := rfl
  fetched := by simp [lastCycle, at18, hs]
  oneFlag := by simp [lastCycle, at18, hn, hz, hp]
  latency := (by decide : 2 ≤ 5)
  counter := (by decide : 4 ≤ 4)
  ready := by simp only [lastCycle, at18]; decide
  memory := rfl
  haltedAtZero := by intro h; cases h

/-- EveryStepKeepsTheBoundaryInvariant: a plain cycle, a transfer cycle, and a halt. -/
theorem witness_EveryStepKeepsTheBoundaryInvariant :
    (BoundaryInv fetchState ∧ step fetchState = .next (after fetchState)) ∧
    (BoundaryInv (lastCycle 0b1010#35 (latches 0x3002 0 0x3000 0)) ∧
      completes (lastCycle 0b1010#35 (latches 0x3002 0 0x3000 0)) = true) ∧
    (BoundaryInv (at18 0#35 (latches 0 0 0 0)) ∧ completes (at18 0#35 (latches 0 0 0 0)) = true) :=
  ⟨⟨at18_inv _ _ rfl rfl rfl rfl rfl, fetch_runs.2⟩, ⟨lastCycle_inv _ _ rfl rfl rfl rfl, by decide⟩,
    ⟨at18_inv _ _ rfl rfl rfl rfl rfl, by decide⟩⟩

/-- The inputs of a small load: zero rows, the image `x3000, xC000` of program P1, the least latency. -/
def smallLoad : LoadInputs :=
  { memCycles := 2, initialState := 18#6, microcode := some (List.replicate 64 zeroLine),
    image := some ["0x3000".toList, "xC000".toList] }

/-- The state it leaves. -/
def loaded : State := State.afterLoad 2 18#6 (Vector.replicate 64 0#35) 0x3000#16 [(0x3001, 0xC0#8)]

/-- LoadAndResetEstablishTheBoundaryInvariant, LoadedStateFieldByField: a load that succeeds with latency 2. -/
theorem witness_LoadAndResetEstablishTheBoundaryInvariant : boot smallLoad = .ok loaded ∧ 2 ≤ smallLoad.memCycles := by
  refine ⟨?_, by decide⟩
  have hw : readWords ["0x3000".toList, "xC000".toList] = .ok [0x3000#16, 0xC000#16] := by decide
  have hi : loadImage [0x3000#16, 0xC000#16] = .ok (0x3000#16, [(0x3001, 0xC0#8)]) := by decide
  simp only [boot, smallLoad, loaded, zero_rows_load, hw, hi]

/-- LoadedStateFieldByField: the load, its one image word, and an address on each side of it. -/
theorem witness_LoadedStateFieldByField :
    boot smallLoad = .ok loaded ∧ ([0xC000#16] : List Word)[0]? = some 0xC000#16 ∧
    (0x2FFF < (0x3000#16 &&& 0xFFFE#16).toNat) ∧ ((0x3000#16 &&& 0xFFFE#16).toNat + 2 * [0xC000#16].length ≤ 0x3002) :=
  ⟨witness_LoadAndResetEstablishTheBoundaryInvariant.1, by decide, by decide, by decide⟩

/-- ImageSizeTest, H7: one word at the last pair fits, two do not. -/
theorem witness_ImageSizeTest :
    0x10000 < ((0xFFFE#16).toNat / 2) * 2 + 2 * [1#16, 2#16].length ∧
    ((0xFFFF#16).toNat / 2) * 2 + 2 * [1#16].length ≤ 0x10000 := by decide

/-- HaltTestRunsNoFurtherCycle, H1 and H4: a running flag with `PC = 0`, and a halted machine. -/
theorem witness_HaltTestRunsNoFurtherCycle :
    ((at18 0#35 (latches 0 0 0 0)).halted = false ∧ (at18 0#35 (latches 0 0 0 0)).cur.pc = 0#16) ∧
    { at18 0#35 (latches 0 0 0 0) with halted := true }.halted = true := by decide

/-- HostCallEndsOneOfThreeWays: a call that does not end, one that halts at once, one that faults; `n = 1`. -/
theorem witness_HostCallEndsOneOfThreeWays :
    (fetchState.halted = false ∧ hostStep 1 fetchState = .notEnded (after fetchState)) ∧
    (∃ t, hostStep 1 (at18 0#35 (latches 0 0 0 0)) = .halted t) ∧
    (illState.halted = false ∧ ∃ f, hostStep 1 illState = .faulted f) := by
  refine ⟨⟨rfl, ?_⟩, ⟨_, rfl⟩, rfl, ?_⟩
  · have h : runCycle fetchState = .next (after fetchState) := (step_running rfl (by decide)).symm.trans fetch_runs.2
    have hh : fetchState.halted = false := rfl
    have hp : fetchState.cur.pc ≠ 0#16 := by decide
    simp [hostStep, runLoop, hh, hp, h]
  · obtain ⟨f, hf⟩ := step_faults (s := illState) (by decide)
    have h : runCycle illState = .fault f := (step_running rfl (by decide)).symm.trans hf
    have hh : illState.halted = false := rfl
    have hp : illState.cur.pc ≠ 0#16 := by decide
    exact ⟨f, by simp [hostStep, runLoop, hh, hp, h]⟩

/-- PcWrapAroundHalts, C14: `PC = xFFFE` under `LD_PC` with `PCMUX = 00`. -/
theorem witness_PcWrapAroundHalts :
    let s := at18 0b00000000000000010000000000000000000#35 (latches 0xFFFE 0 0 0)
    Running s ∧ cwLdPc s.cur.microinstruction = true ∧ cwPcmux s.cur.microinstruction = 0#2 ∧
    s.cur.pc = 0xFFFE#16 ∧ step s = .next (after s) :=
  ⟨⟨rfl, by decide⟩, by decide, by decide, by decide, step_after (by decide)⟩

/-- The ill-formed word with the four memory bits of a row beside it. -/
def illWord (memBits : BitVec 4) : ControlWord := 0b00000000000000010000011000000000000#35 ||| memBits.zeroExtend 35

/-- IllFormedWordFaultsAndMemoryWritesStand: no access, a counting cycle, a read, a word write, a byte write. -/
theorem witness_IllFormedWordFaultsAndMemoryWritesStand :
    (Running illState ∧ cwLdPc illState.cur.microinstruction = true ∧ cwPcmux illState.cur.microinstruction = 3#2 ∧
      cwMioEn illState.cur.microinstruction = false) ∧
    (cwLdPc (illWord 0b1000#4) = true ∧ cwPcmux (illWord 0b1000#4) = 3#2 ∧ cwMioEn (illWord 0b1000#4) = true ∧
      cwRW (illWord 0b1000#4) = false) ∧
    (cwMioEn (illWord 0b1110#4) = true ∧ cwRW (illWord 0b1110#4) = true ∧ cwDataSize (illWord 0b1110#4) = true) ∧
    (cwMioEn (illWord 0b1100#4) = true ∧ cwRW (illWord 0b1100#4) = true ∧ cwDataSize (illWord 0b1100#4) = false) ∧
    (Running (lastCycle (illWord 0b1110#4) (latches 0x3000 0 0 0)) ∧
      (lastCycle (illWord 0b1110#4) (latches 0x3000 0 0 0)).cur.ready = true) ∧
    (Running illWaitState ∧ illWaitState.cur.ready = false) :=
  ⟨⟨⟨rfl, by decide⟩, by decide, by decide, by decide⟩, by decide, by decide, by decide,
    ⟨⟨rfl, by decide⟩, rfl⟩, ⟨rfl, by decide⟩, rfl⟩

/-- OnlyTheIllFormedWordFaults: a step that faults and a step that is refused. -/
theorem witness_OnlyTheIllFormedWordFaults :
    (∃ f, step illState = .fault f) ∧ (∃ r, step { fetchState with halted := true } = .refused r) :=
  ⟨step_faults (by decide), ⟨_, rfl⟩⟩

/-- WellFormedStoreRunsWithoutFault: the invariant, and a store without an ill-formed row. -/
theorem witness_WellFormedStoreRunsWithoutFault :
    BoundaryInv fetchState ∧ StoreWellFormed fetchState.controlStore :=
  ⟨at18_inv _ _ rfl rfl rfl rfl rfl, by unfold StoreWellFormed; decide +kernel⟩

/-- EveryWellFormedOpCompletes: a well-formed row and the ill-formed one. -/
theorem witness_EveryWellFormedOpCompletes :
    Instr.ldPcBus.wellFormed = true ∧ Instr.ldPcReserved.wellFormed = false := by decide

/-- OpsWriteOnlyStagedState: a row that completes and is not the memory unit's. -/
theorem witness_OpsWriteOnlyStagedState : (∃ t, exec .ldMar fetchState = .next t) ∧ slotOf .ldMar ≠ .mem :=
  ⟨⟨_, rfl⟩, by decide⟩

/-- ControlStoreIsReadOnly: a run of one step that answers a next state. -/
theorem witness_ControlStoreIsReadOnly : Sys2Proof.core.run 1 fetchState = Host.Outcome.next (after fetchState) :=
  (run_succ_next fetch_runs.2).trans (run_zero _)

/-- NextAddressTruthTable: a completing running state for each of the five rows of the table. -/
theorem witness_NextAddressTruthTable :
    let a := at18 0b10000000000000000000000000000000000#35 (latches 0x3000 0xF025 0 0)
    let b := at18 0b00011111100000000000000000000000000#35 (latches 0x3000 0 0 0)
    let c := at18 0b00100000000000000000000000000000000#35 (latches 0x3000 0 0 0)
    let d := at18 0b01000000000000000000000000000000000#35 (latches 0x3000 0 0 0)
    let e := at18 0b01100000000000000000000000000000000#35 (latches 0x3000 0 0 0)
    (Running a ∧ completes a = true ∧ cwIrd a.cur.microinstruction = true) ∧
    (completes b = true ∧ cwIrd b.cur.microinstruction = false ∧ cwCond b.cur.microinstruction = 0#2) ∧
    (completes c = true ∧ cwIrd c.cur.microinstruction = false ∧ cwCond c.cur.microinstruction = 1#2) ∧
    (completes d = true ∧ cwIrd d.cur.microinstruction = false ∧ cwCond d.cur.microinstruction = 2#2) ∧
    (completes e = true ∧ cwIrd e.cur.microinstruction = false ∧ cwCond e.cur.microinstruction = 3#2) :=
  ⟨⟨⟨rfl, by decide⟩, by decide, by decide⟩, by decide, by decide, by decide, by decide⟩

/-- UnloadedLatchesHold: the row 0 of all zeros loads nothing; LD_MAR is a row of the latch commit. -/
theorem witness_UnloadedLatchesHold :
    let s := at18 0#35 (latches 0x3000 0 0 0)
    (slotOf .ldMar ∈ [Slot.ldMar, .ldIr, .ldMdr, .ldBen, .irBen, .ldReg, .ldPc, .ldCc] ∧
      ∃ t, exec .ldMar s = .next t) ∧
    Running s ∧ step s = .next (after s) ∧ cwLdMar s.cur.microinstruction = false ∧
    cwLdIr s.cur.microinstruction = false ∧ cwLdMdr s.cur.microinstruction = false ∧
    cwLdBen s.cur.microinstruction = false ∧ cwLdReg s.cur.microinstruction = false ∧
    cwLdPc s.cur.microinstruction = false ∧ cwLdCc s.cur.microinstruction = false ∧
    cwMioEn s.cur.microinstruction = false :=
  ⟨⟨by decide, ⟨_, rfl⟩⟩, ⟨rfl, by decide⟩, step_after (by decide), by decide⟩

/-- LoadEnablesTakeTheBus: one word with `LD_MAR`, `LD_IR`, `LD_REG` and `LD_CC`. -/
theorem witness_LoadEnablesTakeTheBus :
    let s := at18 0b00000000010101101000000000000000000#35 (latches 0x3000 0 0 0)
    Running s ∧ step s = .next (after s) ∧ cwLdMar s.cur.microinstruction = true ∧
    cwLdIr s.cur.microinstruction = true ∧ cwLdReg s.cur.microinstruction = true ∧
    cwLdCc s.cur.microinstruction = true :=
  ⟨⟨rfl, by decide⟩, step_after (by decide), by decide⟩

/-- The gates of a state's control word, in the arbiter's order. -/
def gates (cw : ControlWord) : List Bool :=
  [cwGateMarmux cw, cwGatePc cw, cwGateAlu cw, cwGateShf cw, cwGateMdr cw]

/-- BusPriority: a completing running state for each of the six cases, every lower gate asserted beside it. -/
theorem witness_BusPriority :
    let s : ControlWord → State := fun cw => at18 cw (latches 0x3000 0 0 0)
    Running (s 0b00000000000000001111100000000000000#35) ∧
    completes (s 0b00000000000000001111100000000000000#35) = true ∧
    gates 0b00000000000000001111100000000000000#35 = [true, true, true, true, true] ∧
    completes (s 0b00000000000000001110100000000000000#35) = true ∧
    gates 0b00000000000000001110100000000000000#35 = [false, true, true, true, true] ∧
    completes (s 0b00000000000000000110100000000000000#35) = true ∧
    gates 0b00000000000000000110100000000000000#35 = [false, false, true, true, true] ∧
    completes (s 0b00000000000000000100100000000000000#35) = true ∧
    gates 0b00000000000000000100100000000000000#35 = [false, false, false, true, true] ∧
    completes (s 0b00000000000000000100000000000000000#35) = true ∧
    gates 0b00000000000000000100000000000000000#35 = [false, false, false, false, true] ∧
    completes (s 0b00000000000000000000000000000000000#35) = true ∧
    gates 0b00000000000000000000000000000000000#35 = [false, false, false, false, false] :=
  ⟨⟨rfl, by decide⟩, by decide⟩

/-- PcSources: a completing running state for each of the three sources. -/
theorem witness_PcSources :
    let a := at18 0b00000000000000010000000000000000000#35 (latches 0xFFFF 0 0 0)
    let b := at18 0b00000000000000011000001000000000000#35 (latches 0x3001 0 0 0)
    let c := at18 0b00000000000000010000010000000000000#35 (latches 0x3000 0 0 0)
    (Running a ∧ completes a = true ∧ cwLdPc a.cur.microinstruction = true ∧
      cwPcmux a.cur.microinstruction = 0#2) ∧
    (Running b ∧ completes b = true ∧ cwLdPc b.cur.microinstruction = true ∧
      cwPcmux b.cur.microinstruction = 1#2) ∧
    (Running c ∧ completes c = true ∧ cwLdPc c.cur.microinstruction = true ∧
      cwPcmux c.cur.microinstruction = 2#2) :=
  ⟨⟨⟨rfl, by decide⟩, by decide⟩, ⟨⟨rfl, by decide⟩, by decide⟩, ⟨⟨rfl, by decide⟩, by decide⟩⟩

/-- BranchEnableFromCurrentFlags, C10 and C11: `IR[11:9]` at 000 and at 111 under the boundary invariant. -/
theorem witness_BranchEnableFromCurrentFlags :
    let a := at18 0b00000000000010000000000000000000000#35 (latches 0x3000 0x0000 0 0)
    let b := at18 0b00000000000010000000000000000000000#35 (latches 0x3000 0x0E00 0 0)
    (Running a ∧ completes a = true ∧ cwLdBen a.cur.microinstruction = true ∧ irRegA a.cur.ir = 0#3) ∧
    (Running b ∧ completes b = true ∧ irRegA b.cur.ir = 7#3 ∧ BoundaryInv b) :=
  ⟨⟨⟨rfl, by decide⟩, by decide⟩, ⟨rfl, by decide⟩, by decide, by decide, at18_inv _ _ rfl rfl rfl rfl rfl⟩

/-- LinkAndJumpUseOldValues: fixture row 20 with `JSRR R7`. -/
theorem witness_LinkAndJumpUseOldValues :
    let s := at18 0b00001001000001011000010111000000000#35 (setReg (latches 0x3002 0x41C0 0 0) 7#3 0x4000#16)
    Running s ∧ step s = .next (after s) ∧ cwGateMarmux s.cur.microinstruction = false ∧
    cwGatePc s.cur.microinstruction = true ∧ cwLdReg s.cur.microinstruction = true ∧
    cwDrmux s.cur.microinstruction = true ∧ cwLdPc s.cur.microinstruction = true ∧
    cwPcmux s.cur.microinstruction = 2#2 ∧ cwAddr1mux s.cur.microinstruction = true ∧
    cwAddr2mux s.cur.microinstruction = 0#2 :=
  ⟨⟨rfl, by decide⟩, step_after (by decide), by decide⟩

/-- WordWriteRoundTrip: the two addresses of the last pair, and an address of another pair. -/
theorem witness_WordWriteRoundTrip :
    Memory.wf [(0xFFFF, 1#8)] = true ∧ (0xFFFF#16).toNat / 2 = (0xFFFE#16).toNat / 2 ∧
    0xFFFD / 2 ≠ (0xFFFF#16).toNat / 2 := by decide

/-- ByteWriteKeepsTheOtherByte: a canonical memory, and the other byte of the pair. -/
theorem witness_ByteWriteKeepsTheOtherByte :
    Memory.wf [(0xFFFE, 1#8), (0xFFFF, 2#8)] = true ∧ 0xFFFE ≠ (0xFFFF#16).toNat := by decide

/-- EqualReadsAreEqualMemories: a canonical memory with two bytes, and itself. -/
theorem witness_EqualReadsAreEqualMemories :
    Memory.wf [(0, 1#8), (0xFFFF, 2#8)] = true ∧
    ∀ a : Nat, Memory.read [(0, 1#8), (0xFFFF, 2#8)] a = Memory.read [(0, 1#8), (0xFFFF, 2#8)] a :=
  ⟨by decide, fun _ => rfl⟩

/-- LatencyCounterAndReady, M1 and M6: no access, the first and the last wait cycle, and the transfer cycle. -/
theorem witness_LatencyCounterAndReady :
    (BoundaryInv fetchState ∧ Running fetchState ∧ step fetchState = .next (after fetchState) ∧
      cwMioEn fetchState.cur.microinstruction = false) ∧
    (BoundaryInv waitState ∧ Running waitState ∧ step waitState = .next (after waitState) ∧
      cwMioEn waitState.cur.microinstruction = true ∧ waitState.cur.ready = false ∧
      waitState.memCounter + 1 ≠ waitState.memCycles - 1) ∧
    (let s := { waitState with memCounter := 3 };
      Running s ∧ completes s = true ∧ s.cur.ready = false ∧ s.memCounter + 1 = s.memCycles - 1 ∧ BoundaryInv s) ∧
    (let s := lastCycle 0b00110000101000000000000000000001010#35 (latches 0x3002 0 0x3000 0);
      BoundaryInv s ∧ Running s ∧ completes s = true ∧ cwMioEn s.cur.microinstruction = true ∧ s.cur.ready = true) := by
  refine ⟨⟨at18_inv _ _ rfl rfl rfl rfl rfl, fetch_runs.1, fetch_runs.2, by decide⟩,
    ⟨at18_inv _ _ rfl rfl rfl rfl rfl, ⟨rfl, by decide⟩, step_after (by decide), by decide⟩,
    ⟨⟨rfl, by decide⟩, by decide, by decide, by decide, ?_⟩,
    lastCycle_inv _ _ rfl rfl rfl rfl, ⟨rfl, by decide⟩, by decide⟩
  exact
    { staged := rfl, netsIdle := rfl, fetched := by decide, oneFlag := by decide, latency := by decide,
      counter := by decide, ready := by decide, memory := rfl, haltedAtZero := (fun h => nomatch h) }

/-- A word-write transfer at the last pair of memory, by fixture row 16. -/
def wordWriteState : State := lastCycle 0b00101000000000000000000000000001110#35 (latches 0x300A 0 0xFFFF 0x8070)

/-- A byte-write transfer at the last byte of memory, by fixture row 17. -/
def byteWriteState : State := lastCycle 0b00101000100000000000000000000001100#35 (latches 0x300C 0 0xFFFF 0x8080)

/-- MemoryChangesOnlyByAWriteTransfer: a cycle without a write, a word write, a byte write. -/
theorem witness_MemoryChangesOnlyByAWriteTransfer :
    (fetchState.mem.wf = true ∧ Running fetchState ∧ step fetchState = .next (after fetchState) ∧
      (cwMioEn fetchState.cur.microinstruction && fetchState.cur.ready && cwRW fetchState.cur.microinstruction)
        = false) ∧
    (wordWriteState.mem.wf = true ∧ Running wordWriteState ∧ step wordWriteState = .next (after wordWriteState) ∧
      (cwMioEn wordWriteState.cur.microinstruction && wordWriteState.cur.ready &&
        cwRW wordWriteState.cur.microinstruction) = true ∧
      cwDataSize wordWriteState.cur.microinstruction = true) ∧
    (byteWriteState.mem.wf = true ∧ Running byteWriteState ∧ step byteWriteState = .next (after byteWriteState) ∧
      (cwMioEn byteWriteState.cur.microinstruction && byteWriteState.cur.ready &&
        cwRW byteWriteState.cur.microinstruction) = true ∧
      cwDataSize byteWriteState.cur.microinstruction = false) :=
  ⟨⟨rfl, fetch_runs.1, fetch_runs.2, by decide⟩, ⟨rfl, ⟨rfl, by decide⟩, step_after (by decide), by decide⟩,
    ⟨rfl, ⟨rfl, by decide⟩, step_after (by decide), by decide⟩⟩

/-- ReadTransferLoadsMdr: fixture row 33 in its transfer cycle. -/
theorem witness_ReadTransferLoadsMdr :
    let s := lastCycle 0b00110000101000000000000000000001010#35 (latches 0x3002 0 0xFFFF 0)
    Running s ∧ step s = .next (after s) ∧ cwLdMdr s.cur.microinstruction = true ∧
    cwMioEn s.cur.microinstruction = true ∧ cwRW s.cur.microinstruction = false ∧ s.cur.ready = true :=
  ⟨⟨rfl, by decide⟩, step_after (by decide), by decide⟩

/-- A byte-mode load of `MDR` from the bus (the `PC`) at an odd address, with `READY` 1; `J` names row 19, which
writes a byte. -/
def byteStoreState : State :=
  { lastCycle 0b00001001101000001000000000000000000#35 (latches 0x3180 0 0x3013 0) with
    controlStore := State.reset.controlStore.set 19 0b00000000000000000000000000000001100#35 }

/-- MdrFromTheBus, C5 and C7: byte mode at an odd address, and word mode. -/
theorem witness_MdrFromTheBus :
    (Running byteStoreState ∧ step byteStoreState = .next (after byteStoreState) ∧
      cwLdMdr byteStoreState.cur.microinstruction = true ∧ cwMioEn byteStoreState.cur.microinstruction = false ∧
      cwDataSize byteStoreState.cur.microinstruction = false ∧ byteStoreState.cur.mar.getLsbD 0 = true) ∧
    (let s := at18 0b00000000001000001000000000000000010#35 (latches 0x8070 0 0x3011 0);
      Running s ∧ completes s = true ∧ cwLdMdr s.cur.microinstruction = true ∧
      cwMioEn s.cur.microinstruction = false ∧ cwDataSize s.cur.microinstruction = true) :=
  ⟨⟨⟨rfl, by decide⟩, step_after (by decide), by decide⟩, ⟨rfl, by decide⟩, by decide⟩

/-- The same load of `MDR`, `J` naming row 17, a byte-write row that waits on itself; a fresh access, latency 5. -/
def freshStoreState : State :=
  let s := at18 0b00001000101000001000000000000000000#35 (latches 0x3180 0 0x3013 0)
  { s with controlStore := s.controlStore.set 17 0b00101000100000000000000000000001100#35 }

/-- ByteStoreProtocolStoresTheLowByte: the load of `MDR` before a fresh access. -/
theorem witness_ByteStoreProtocol_fresh :
    let s := freshStoreState
    let t := after s
    BoundaryInv s ∧ Running s ∧ step s = .next t ∧ Running t ∧ s.memCounter = 0 ∧ 1 < s.memCycles - s.memCounter ∧
    cwLdMdr s.cur.microinstruction = true ∧ cwMioEn s.cur.microinstruction = false ∧
    cwDataSize s.cur.microinstruction = false ∧ cwLdMar s.cur.microinstruction = false ∧
    cwIrd t.cur.microinstruction = false ∧ cwCond t.cur.microinstruction = 1#2 ∧
    cwJ t.cur.microinstruction = t.cur.stateNumber ∧ t.cur.stateNumber.getLsbD 1 = false ∧
    cwMioEn t.cur.microinstruction = true ∧ cwRW t.cur.microinstruction = true ∧
    cwDataSize t.cur.microinstruction = false ∧ cwLdMar t.cur.microinstruction = false ∧
    cwLdMdr t.cur.microinstruction = false ∧ cwLdPc t.cur.microinstruction = false :=
  ⟨{ staged := rfl, netsIdle := rfl, fetched := by decide, oneFlag := by decide, latency := by decide,
      counter := by decide, ready := by decide, memory := rfl, haltedAtZero := (fun h => nomatch h) },
    ⟨rfl, by decide⟩, step_after (by decide), ⟨by decide, by decide⟩, by decide⟩

/-- ByteStoreProtocolStoresTheLowByte: the load of `MDR` and the transfer after it. -/
theorem witness_ByteStoreProtocolStoresTheLowByte :
    let s := byteStoreState
    let t := after s
    s.mem.wf = true ∧ Running s ∧ step s = .next t ∧ Running t ∧ step t = .next (after t) ∧
    cwLdMdr s.cur.microinstruction = true ∧ cwMioEn s.cur.microinstruction = false ∧
    cwDataSize s.cur.microinstruction = false ∧ cwLdMar s.cur.microinstruction = false ∧
    cwMioEn t.cur.microinstruction = true ∧ cwRW t.cur.microinstruction = true ∧
    cwDataSize t.cur.microinstruction = false ∧ t.cur.ready = true :=
  ⟨rfl, ⟨rfl, by decide⟩, step_after (by decide), ⟨by decide, by decide⟩, step_after (by decide), by decide, by decide,
    by decide, by decide, by decide, by decide, by decide, by decide⟩

/-- Row 33 waiting on itself for a read, at its own state number, before its first cycle; the least latency. -/
def accessState : State :=
  let l := { latches 0x3002 0 0x3000 0 with
    microinstruction := 0b00110000101000000000000000000001010#35, stateNumber := 33#6 }
  { State.reset with
    cur := l, nxt := l, memCycles := 2
    controlStore := State.reset.controlStore.set 33 0b00110000101000000000000000000001010#35 }

/-- AccessTakesMemCyclesCycles: a fresh read access in a row that holds itself, the latency being 2. -/
theorem witness_AccessTakesMemCyclesCycles :
    BoundaryInv accessState ∧ Running accessState ∧ accessState.memCounter = 0 ∧
    cwIrd accessState.cur.microinstruction = false ∧ cwCond accessState.cur.microinstruction = 1#2 ∧
    cwJ accessState.cur.microinstruction = accessState.cur.stateNumber ∧
    accessState.cur.stateNumber.getLsbD 1 = false ∧ cwMioEn accessState.cur.microinstruction = true ∧
    cwLdPc accessState.cur.microinstruction = false ∧ 1 < accessState.memCycles ∧
    cwRW accessState.cur.microinstruction = false ∧ cwLdMdr accessState.cur.microinstruction = true ∧
    cwLdMar accessState.cur.microinstruction = false :=
  ⟨{ staged := rfl, netsIdle := rfl, fetched := by decide, oneFlag := by decide, latency := by decide,
      counter := by decide, ready := by decide, memory := rfl, haltedAtZero := (fun h => nomatch h) },
    ⟨rfl, by decide⟩, by decide⟩

/-- CountAndLastBusAreInvisible, StagedLatchesAndOldNetsAreInvisible: a running state whose step completes. -/
theorem witness_CountAndLastBusAreInvisible : Running fetchState ∧ step fetchState = .next (after fetchState) :=
  fetch_runs

/-- StagedLatchesAndOldNetsAreInvisible. -/
theorem witness_StagedLatchesAndOldNetsAreInvisible : Running fetchState := fetch_runs.1

/-- InstructionRegisterRows: a dispatch, an injection of `IR[11]`, a row without either, and a load of `BEN`. -/
theorem witness_InstructionRegisterRows :
    cwIrd (at18 0b10000000000000000000000000000000000#35 (latches 0x3000 0 0 0)).cur.microinstruction = true ∧
    (cwIrd (at18 0b01100000000000000000000000000000000#35 (latches 0x3000 0 0 0)).cur.microinstruction = false ∧
      cwCond (at18 0b01100000000000000000000000000000000#35 (latches 0x3000 0 0 0)).cur.microinstruction = 3#2) ∧
    cwCond (at18 0b01000000000000000000000000000000000#35 (latches 0x3000 0 0 0)).cur.microinstruction ≠ 3#2 ∧
    cwLdBen (at18 0b00000000000010000000000000000000000#35 (latches 0x3000 0 0 0)).cur.microinstruction = true ∧
    cwLdBen fetchState.cur.microinstruction = false := by decide

/-- MemoryRowsWhileCounting: the last wait cycle and the first. -/
theorem witness_MemoryRowsWhileCounting :
    Instr.memWriteByte ∈ [Instr.memRead, .memWriteWord, .memWriteByte] ∧ State.reset.cur.ready = false ∧
    { State.reset with memCounter := 3 }.memCounter + 1 = State.reset.memCycles - 1 ∧
    State.reset.memCounter + 1 ≠ State.reset.memCycles - 1 := by decide

/-- MemoryRowsInATransfer: `READY` is 1 and memory is canonical. -/
theorem witness_MemoryRowsInATransfer : wordWriteState.cur.ready = true ∧ wordWriteState.mem.wf = true := by decide

/-- MdrLoadRows: the nets of a completing read. -/
theorem witness_MdrLoadRows :
    let s : State := { waitState with nets := { Nets.idle with memDone := true, memRdata := some 0x1265#16 } }
    s.nets.memDone = true ∧ cwRW s.cur.microinstruction = false ∧ s.nets.memRdata = some 0x1265#16 := by decide

/-- MemoryDumpReportsTheClosedRange: the whole space, one byte, an empty range and a range past the end. -/
theorem witness_MemoryDumpReportsTheClosedRange :
    ((0 : Nat) ≤ 0xFFFF ∧ (0xFFFF : Nat) ≤ 0xFFFF) ∧ ((0xFFFF : Nat) ≤ 0xFFFF ∧ 0xFFFF + 0 ≤ 0xFFFF) ∧
    (5 : Nat) < 6 ∧ (0xFFFF : Nat) < 0x10000 := by decide

/-- RegisterDumpShowsTheOutputs: a dump that foretells the halt, and one that shows it. -/
theorem witness_RegisterDumpShowsTheOutputs :
    ((dumpRegistersAndBus (at18 0#35 (latches 0 0 0 0))).halted = false ∧
      (dumpRegistersAndBus (at18 0#35 (latches 0 0 0 0))).latches.pc = 0#16) ∧
    (dumpRegistersAndBus { fetchState with halted := true }).halted = true := by decide

/-- Log 27: the one cycle of step(1) leaves `PC = 0`, and the call is not ended with `halted` still 0. -/
theorem test_step_that_leaves_pc_zero_is_not_ended :
    (match hostStep 1 (at18 0b00000000000000010000000000000000000#35 (latches 0xFFFE 0 0 0)) with
      | .notEnded t => t.cur.pc == 0#16 && !t.halted
      | .halted _ => false
      | .faulted _ => false
      | .refused _ => false) = true := by decide

/-- Log 17: one bad line in a file of one line is reported as too few rows. -/
theorem test_too_few_rows_before_a_bad_row : loadControlStore [['2']] = .error (.tooFewRows 1) := by decide

end Sys2Proof.Tests
end

section
/-! SUPPORT. What one micro-operation can do, what a cycle made of them keeps, and the statements about the machine's
state that follow: the boundary invariant, the frame of an operation, noninterference, memory and the load. -/

namespace Sys2Proof.Machine

/-! ### The decoder, field by field (R83, R199) -/

/-- What a field decodes to belongs to that field. -/
theorem slotOf_decodeSlot {k : Slot} {cw : ControlWord} {ir : Word} {i : Instr} (h : decodeSlot k cw ir = some i) :
    slotOf i = k := by
  cases k <;>
    simp only [decodeSlot, seqOf, sr1Of, memOf, mdrCandOf, addr1Of, addr2Of, lshf1Of, marmuxOf, aluOf, drOf, busOf,
      ldMarOf, ldIrOf, ldMdrOf, ldBenOf, ldRegOf, ldPcOf, ldCcOf, irDispatchOf, irCondOf, irBenOf, irSr2Of,
      irShfOf] at h <;>
    grind [slotOf]

/-- The micro-operations that a list of fields asks for, in the list's order. -/
def slotOps (ks : List Slot) (cw : ControlWord) (ir : Word) : List Instr := ks.filterMap (decodeSlot · cw ir)

theorem slotOps_nil (cw : ControlWord) (ir : Word) : slotOps [] cw ir = [] := rfl

theorem slotOps_cons (k : Slot) (ks : List Slot) (cw : ControlWord) (ir : Word) :
    slotOps (k :: ks) cw ir = (decodeSlot k cw ir).toList ++ slotOps ks cw ir := by
  cases hk : decodeSlot k cw ir <;> simp [slotOps, hk]

theorem slotOps_append (ks ls : List Slot) (cw : ControlWord) (ir : Word) :
    slotOps (ks ++ ls) cw ir = slotOps ks cw ir ++ slotOps ls cw ir := List.filterMap_append ..

/-- A micro-operation of a list of fields belongs to one of them, and is what that field decodes to. -/
theorem slotOf_mem_of_mem_slotOps {ks : List Slot} {cw : ControlWord} {ir : Word} {i : Instr}
    (h : i ∈ slotOps ks cw ir) : slotOf i ∈ ks ∧ decodeSlot (slotOf i) cw ir = some i := by
  obtain ⟨k, hk, hi⟩ := List.mem_filterMap.1 h
  obtain rfl := slotOf_decodeSlot hi
  exact ⟨hk, hi⟩

/-- The fields of unit 1, in the order of their rows. -/
def sequencerSlots : List Slot := [.seq, .irDispatch, .irCond, .sr1]

/-- The fields of units 3 and 4, in the order of their rows. -/
def driverSlots : List Slot := [.mdrCand, .addr1, .addr2, .lshf1, .marmux, .irSr2, .alu, .irShf, .dr, .bus]

/-- The fields of unit 5, in the order of R197. -/
def commitSlots : List Slot := [.ldMar, .ldIr, .ldMdr, .ldBen, .irBen, .ldReg, .ldPc, .ldCc]

/-- A cycle decodes the fields of unit 1, the memory field, and the fields of the units after it. -/
theorem microOps_eq_slotOps (cw : ControlWord) (ir : Word) :
    microOps cw ir = slotOps (sequencerSlots ++ .mem :: (driverSlots ++ commitSlots)) cw ir := by
  simp [microOps, sequencerOps, memoryOps, evaluatorOps, arbiterOps, commitOps, sequencerSlots, driverSlots,
    commitSlots, slotOps_cons, slotOps_nil, decodeSlot]

/-- The reserved `PC` row is decoded exactly from an ill-formed control word (R77). -/
theorem ldPcOf_eq_reserved_iff (cw : ControlWord) : ldPcOf cw = some .ldPcReserved ↔ cwIllFormed cw = true := by
  have hmux : cwPcmux cw ≠ 0#2 → cwPcmux cw ≠ 1#2 → cwPcmux cw ≠ 2#2 → cwPcmux cw = 3#2 := by
    generalize cwPcmux cw = m
    revert m
    decide
  unfold ldPcOf cwIllFormed
  grind

/-- A control word that is not ill-formed asks for well-formed micro-operations only. -/
theorem wellFormed_of_mem_microOps {cw : ControlWord} {ir : Word} {i : Instr} (hcw : cwIllFormed cw = false)
    (h : i ∈ microOps cw ir) : i.wellFormed = true := by
  rw [microOps_eq_slotOps] at h
  have hdec := (slotOf_mem_of_mem_slotOps h).2
  cases i
  case ldPcReserved => simp [(ldPcOf_eq_reserved_iff cw).1 hdec] at hcw
  all_goals rfl


/-! ### What one micro-operation can do -/

/-- Exactly one condition flag of a latch set is 1 (R42). -/
def Latches.OneFlag (l : Latches) : Prop :=
  (l.n, l.z, l.p) ∈ [(true, false, false), (false, true, false), (false, false, true)]

/-- The flags of a bus value are one flag (R195). -/
theorem oneFlag_of_bus (bus : Word) :
    (flagN bus, flagZ bus, flagP bus) ∈ [(true, false, false), (false, true, false), (false, false, true)] := by
  unfold flagN flagP
  cases flagZ bus <;> cases bus.getLsbD 15 <;> decide

/-- What a row of the latch commit may do to the staged latches, seen from the latches that other units or rows own: it
keeps `READY`, the fetched row and one flag, and writes `BEN` only from the `BEN` rows. -/
structure CommitWrites (i : Instr) (l l' : Latches) : Prop where
  ready : l'.ready = l.ready
  stateNumber : l'.stateNumber = l.stateNumber
  microinstruction : l'.microinstruction = l.microinstruction
  oneFlag : l.OneFlag → l'.OneFlag
  ben : slotOf i ∉ [Slot.ldBen, .irBen] → l'.ben = l.ben

/-- Everything a completing micro-operation can do: set nets, fetch a row, stage loads, or act as the memory unit,
which idles, counts, or in a transfer cycle counts and ends the access. -/
inductive OpEffect (i : Instr) (s : State) : State → Prop where
  | nets (w : Nets) (hi : slotOf i ≠ .mem) : OpEffect i s (s.withNets w)
  | fetch (k : MicroState) (hi : slotOf i ≠ .mem) : OpEffect i s (selectRow k s)
  | commit (l : Latches) (hi : slotOf i ≠ .mem) (hl : CommitWrites i s.nxt l) : OpEffect i s (s.withNxt l)
  | idle (hi : slotOf i = .mem) : OpEffect i s (beginMemory s)
  | count (hi : slotOf i = .mem) (hr : s.cur.ready = false) : OpEffect i s (countAccess (beginMemory s))
  | transfer (w : Nets) (m : Memory) (hi : slotOf i = .mem) (hr : s.cur.ready = true)
      (hm : s.mem.wf = true → m.wf = true) :
      OpEffect i s (endAccess (((countAccess (beginMemory s)).withNets w).withMem m))

/-- The inversion of `exec`: a micro-operation that answers a next state has one of these effects. -/
theorem exec_effect {i : Instr} {s t : State} (h : exec i s = .next t) : OpEffect i s t := by
  cases i
  case ldPcReserved => exact nomatch h
  case seqDispatch | seqJ | seqJOrReady | seqJOrBen | seqJOrIr11 =>
    obtain rfl := Host.Outcome.next.inj h
    exact .fetch _ (by simp [slotOf])
  case irDispatch | irCondBit11 =>
    obtain rfl := Host.Outcome.next.inj h
    split
    · exact .fetch _ (by simp [slotOf])
    · exact .nets s.nets (by simp [slotOf])
  case ldMar | ldMdrBusWord | ldMdrBusByte | ldIr | ldReg | ldPcPlus2 | ldPcBus | ldPcAddrSum =>
    obtain rfl := Host.Outcome.next.inj h
    exact .commit _ (by simp [slotOf]) ⟨rfl, rfl, rfl, id, fun _ => rfl⟩
  case ldCc =>
    obtain rfl := Host.Outcome.next.inj h
    exact .commit _ (by simp [slotOf]) ⟨rfl, rfl, rfl, fun _ => oneFlag_of_bus _, fun _ => rfl⟩
  case ldBen =>
    obtain rfl := Host.Outcome.next.inj h
    exact .commit _ (by simp [slotOf]) ⟨rfl, rfl, rfl, id, by simp [slotOf]⟩
  case irBenNzp =>
    obtain rfl := Host.Outcome.next.inj h
    split
    · exact .commit _ (by simp [slotOf]) ⟨rfl, rfl, rfl, id, by simp [slotOf]⟩
    · exact .nets s.nets (by simp [slotOf])
  case ldMdrMem =>
    obtain rfl := Host.Outcome.next.inj h
    split
    · split
      · exact .commit _ (by simp [slotOf]) ⟨rfl, rfl, rfl, id, fun _ => rfl⟩
      · exact .nets s.nets (by simp [slotOf])
    · exact .nets s.nets (by simp [slotOf])
  case memIdle =>
    obtain rfl := Host.Outcome.next.inj h
    exact .idle rfl
  case memRead =>
    obtain rfl := Host.Outcome.next.inj h
    split
    · next hr =>
      exact .transfer { (beginMemory s).nets with memRdata := some (memReadWord s.mem s.cur.mar) } s.mem rfl hr id
    · next hr => exact .count rfl (by simpa using hr)
  case memWriteWord =>
    obtain rfl := Host.Outcome.next.inj h
    split
    · next hr => exact .transfer (beginMemory s).nets _ rfl hr (memWriteWord_wf _ _ _)
    · next hr => exact .count rfl (by simpa using hr)
  case memWriteByte =>
    obtain rfl := Host.Outcome.next.inj h
    split
    · next hr => exact .transfer (beginMemory s).nets _ rfl hr (memWriteByte_wf _ _ _)
    · next hr => exact .count rfl (by simpa using hr)
  -- What is left are the rows of `SR1` and of units 3 and 4: each sets nets only (R161).
  all_goals
    obtain rfl := Host.Outcome.next.inj h
    exact .nets _ (by simp [slotOf])

/-- A well-formed micro-operation completes in every state (R78). -/
theorem exec_completes {i : Instr} (hi : i.wellFormed = true) (s : State) : ∃ t, exec i s = .next t := by
  cases i
  case ldPcReserved => exact nomatch hi
  all_goals exact ⟨_, rfl⟩


/-! ### The frame of a micro-operation and of a list of them (R38) -/

/-- What no micro-operation changes: all that a cycle writes only at its end, or never. -/
structure OpFrame (s t : State) : Prop where
  cur : t.cur = s.cur
  controlStore : t.controlStore = s.controlStore
  memCycles : t.memCycles = s.memCycles
  cycleCount : t.cycleCount = s.cycleCount
  lastBus : t.lastBus = s.lastBus
  halted : t.halted = s.halted

theorem OpFrame.refl (s : State) : OpFrame s s := ⟨rfl, rfl, rfl, rfl, rfl, rfl⟩

theorem OpFrame.trans {s t u : State} (h : OpFrame s t) (h' : OpFrame t u) : OpFrame s u :=
  ⟨h'.cur.trans h.cur, h'.controlStore.trans h.controlStore, h'.memCycles.trans h.memCycles,
    h'.cycleCount.trans h.cycleCount, h'.lastBus.trans h.lastBus, h'.halted.trans h.halted⟩

theorem exec_frame {i : Instr} {s t : State} (h : exec i s = .next t) : OpFrame s t := by
  cases exec_effect h <;> exact ⟨rfl, rfl, rfl, rfl, rfl, rfl⟩

theorem runOps_frame {xs : List Instr} {s t : State} (h : runOps xs s = .next t) : OpFrame s t :=
  runOps_keeps (P := OpFrame s) (fun _ _ _ _ hex hu => hu.trans (exec_frame hex)) h (.refl s)

/-- A step changes neither the control store nor the latency. -/
theorem step_keeps_parameters {s t : State} (h : step s = .next t) :
    t.controlStore = s.controlStore ∧ t.memCycles = s.memCycles := by
  obtain ⟨-, ⟨-, rfl⟩ | ⟨-, hc⟩⟩ := step_next_inv h
  · exact ⟨rfl, rfl⟩
  · obtain ⟨u, hu, rfl⟩ := runCycle_next_inv hc
    exact ⟨(runOps_frame hu).controlStore, (runOps_frame hu).memCycles⟩

/-- A run that answers a next state answered one at its first step. -/
theorem run_succ_next_inv {k : Nat} {s t : State} (h : Sys2Proof.core.run (k + 1) s = Host.Outcome.next t) :
    ∃ u, step s = .next u ∧ Sys2Proof.core.run k u = Host.Outcome.next t := by
  cases hs : step s with
  | next u => exact ⟨u, rfl, (run_succ_next hs).symm.trans h⟩
  | fault f => exact nomatch (run_succ_fault hs).symm.trans h
  | refused r => exact nomatch (run_succ_refused hs).symm.trans h

/-- A list that completes, cut in two: its first part completes, and the second from there. -/
theorem runOps_append_inv {xs ys : List Instr} {s u : State} (h : runOps (xs ++ ys) s = .next u) :
    ∃ t, runOps xs s = .next t ∧ runOps ys t = .next u := by
  induction xs generalizing s with
  | nil => exact ⟨s, rfl, h⟩
  | cons i rest ih =>
    obtain ⟨v, hv, hr⟩ := runOps_cons_inv h
    obtain ⟨t, ht, hu⟩ := ih hr
    exact ⟨t, (runOps_cons_next rest hv).trans ht, hu⟩

/-- A list of well-formed micro-operations completes. -/
theorem runOps_completes {xs : List Instr} (hx : ∀ i ∈ xs, i.wellFormed = true) (s : State) :
    ∃ t, runOps xs s = .next t := by
  induction xs generalizing s with
  | nil => exact ⟨s, rfl⟩
  | cons i rest ih =>
    obtain ⟨u, hu⟩ := exec_completes (hx i List.mem_cons_self) s
    obtain ⟨t, ht⟩ := ih (fun j hj => hx j (List.mem_cons_of_mem _ hj)) u
    exact ⟨t, (runOps_cons_next rest hu).trans ht⟩

/-- What every micro-operation of some fields keeps is kept by the micro-operations those fields decode to. -/
theorem runOps_slotOps_keeps {P : State → Prop} {ks : List Slot} {cw : ControlWord} {ir : Word} {s t : State}
    (hk : ∀ i u v, slotOf i ∈ ks → exec i u = .next v → P u → P v) (h : runOps (slotOps ks cw ir) s = .next t)
    (hs : P s) : P t :=
  runOps_keeps (fun i hi u v => hk i u v (slotOf_mem_of_mem_slotOps hi).1) h hs

/-! ### What every micro-operation keeps of the boundary invariant -/

/-- R41 of the staged latches: the staged control word is the row of the staged state number. -/
def StagedFetch (s : State) : Prop := s.nxt.microinstruction = controlRow s.controlStore s.nxt.stateNumber

theorem exec_keeps_stagedFetch {i : Instr} {s t : State} (h : exec i s = .next t) (hs : StagedFetch s) :
    StagedFetch t := by
  cases exec_effect h with
  | commit l hi hl => simpa [StagedFetch, hl.microinstruction, hl.stateNumber] using hs
  | fetch => rfl
  | nets | idle | count | transfer => exact hs

theorem exec_keeps_oneFlag {i : Instr} {s t : State} (h : exec i s = .next t) (hs : s.nxt.OneFlag) :
    t.nxt.OneFlag := by
  cases exec_effect h with
  | commit l hi hl => exact hl.oneFlag hs
  | nets | fetch | idle | count | transfer => exact hs

theorem exec_keeps_mem_wf {i : Instr} {s t : State} (h : exec i s = .next t) (hs : s.mem.wf = true) :
    t.mem.wf = true := by
  cases exec_effect h with
  | transfer w m hi hr hm => exact hm hs
  | nets | fetch | commit | idle | count => exact hs

/-! ### The latency counter and `READY` (R132) -/

/-- R132 for a latency, a counter and a `READY`: the counter is in range and `READY` marks its end. -/
def TimerInRange (memCycles memCounter : Nat) (ready : Bool) : Prop :=
  memCounter ≤ memCycles - 1 ∧ ready = (memCounter == memCycles - 1)

/-- A cleared counter with `READY` clear is in range: an access takes at least two cycles (D11). -/
theorem timerInRange_zero {memCycles : Nat} (hlat : 2 ≤ memCycles) : TimerInRange memCycles 0 false := by
  have hne : 0 ≠ memCycles - 1 := by omega
  exact ⟨Nat.zero_le _, by simpa using hne⟩

/-- What the micro-operations outside the memory unit leave alone. -/
structure MemoryFrame (s t : State) : Prop where
  mem : t.mem = s.mem
  memCounter : t.memCounter = s.memCounter
  ready : t.nxt.ready = s.nxt.ready

theorem MemoryFrame.refl (s : State) : MemoryFrame s s := ⟨rfl, rfl, rfl⟩

theorem MemoryFrame.trans {s t u : State} (h : MemoryFrame s t) (h' : MemoryFrame t u) : MemoryFrame s u :=
  ⟨h'.mem.trans h.mem, h'.memCounter.trans h.memCounter, h'.ready.trans h.ready⟩

/-- A micro-operation of another unit leaves memory, the counter and `READY` alone (R33). -/
theorem exec_memoryFrame {i : Instr} {s t : State} (h : exec i s = .next t) (hi : slotOf i ≠ .mem) :
    MemoryFrame s t := by
  cases exec_effect h with
  | nets | fetch => exact ⟨rfl, rfl, rfl⟩
  | commit l _ hl => exact ⟨rfl, rfl, hl.ready⟩
  | idle h' | count h' | transfer _ _ h' => exact absurd h' hi

theorem runOps_memoryFrame {ks : List Slot} {cw : ControlWord} {ir : Word} {s t : State}
    (h : runOps (slotOps ks cw ir) s = .next t) (hks : .mem ∉ ks) : MemoryFrame s t :=
  runOps_slotOps_keeps (P := MemoryFrame s)
    (fun _ _ _ hi hex hu => hu.trans (exec_memoryFrame hex fun hm => hks (hm ▸ hi))) h (.refl s)

/-- The memory unit keeps the range, where the staged `READY` is still the current one. -/
theorem exec_mem_keeps_timer {i : Instr} {s t : State} (h : exec i s = .next t) (hi : slotOf i = .mem)
    (hlat : 2 ≤ s.memCycles) (hready : s.nxt.ready = s.cur.ready)
    (hs : TimerInRange s.memCycles s.memCounter s.nxt.ready) : TimerInRange t.memCycles t.memCounter t.nxt.ready := by
  obtain ⟨hrange, hend⟩ := hs
  cases exec_effect h with
  | nets _ h' | fetch _ h' | commit _ h' => exact absurd hi h'
  | idle => exact ⟨hrange, hend⟩
  | count _ hr =>
    have hnot : s.memCounter ≠ s.memCycles - 1 := by simpa [hready, hr] using hend
    have hlt : s.memCounter + 1 ≤ s.memCycles - 1 := by omega
    exact ⟨hlt, by simp [hready, hr]⟩
  | transfer => exact timerInRange_zero hlat

/-- A whole cycle keeps the range: the memory unit acts once, on the `READY` the cycle began with. -/
theorem cycle_keeps_timer {cw : ControlWord} {ir : Word} {s t : State} (h : runOps (microOps cw ir) s = .next t)
    (hlat : 2 ≤ s.memCycles) (hready : s.nxt.ready = s.cur.ready)
    (hs : TimerInRange s.memCycles s.memCounter s.nxt.ready) : TimerInRange t.memCycles t.memCounter t.nxt.ready := by
  rw [microOps_eq_slotOps, slotOps_append] at h
  obtain ⟨u, hu, h⟩ := runOps_append_inv h
  obtain ⟨v, hv, h⟩ := runOps_cons_inv (i := memOf cw) h
  have hsu := runOps_memoryFrame hu (by decide)
  have hvt := runOps_memoryFrame h (by decide)
  have hmem : slotOf (memOf cw) = .mem := slotOf_decodeSlot (k := .mem) (ir := ir) rfl
  have huv := exec_mem_keeps_timer hv hmem (by rwa [(runOps_frame hu).memCycles])
    (by rw [hsu.ready, hready, (runOps_frame hu).cur])
    (by rwa [hsu.memCounter, hsu.ready, (runOps_frame hu).memCycles])
  rwa [hvt.memCounter, hvt.ready, (runOps_frame h).memCycles]

/-! ### The boundary invariant and runs without a fault -/

/-- A completed cycle keeps the boundary invariant: the swap makes the staged latches current. -/
theorem runCycle_keeps_boundaryInv {s t : State} (hs : BoundaryInv s) (hh : s.halted = false)
    (h : runCycle s = .next t) : BoundaryInv t := by
  obtain ⟨u, hu, rfl⟩ := runCycle_next_inv h
  have hframe := runOps_frame hu
  have htimer := cycle_keeps_timer hu hs.latency rfl ⟨hs.counter, hs.ready⟩
  have hwf : u.mem.wf = true := runOps_keeps (P := (·.mem.wf = true)) (fun _ _ _ _ => exec_keeps_mem_wf) hu hs.memory
  exact
    { staged := rfl
      netsIdle := rfl
      fetched := runOps_keeps (P := StagedFetch) (fun _ _ _ _ => exec_keeps_stagedFetch) hu hs.fetched
      oneFlag := runOps_keeps (P := (·.nxt.OneFlag)) (fun _ _ _ _ => exec_keeps_oneFlag) hu hs.oneFlag
      latency := hframe.memCycles ▸ hs.latency
      counter := htimer.1
      ready := htimer.2
      memory := hwf
      haltedAtZero := fun hhalt => absurd hhalt (by simp [hframe.halted, hh]) }

/-- Settles O8: a step is the halt test, which changes `halted` only, or a cycle. -/
theorem everyStepKeepsTheBoundaryInvariant : Obligations.EveryStepKeepsTheBoundaryInvariant := by
  intro s t hs h
  obtain ⟨hh, ⟨hpc, rfl⟩ | ⟨-, hc⟩⟩ := step_next_inv h
  · exact { hs with haltedAtZero := fun _ => hpc }
  · exact runCycle_keeps_boundaryInv hs hh hc

/-- Where the active control word is not ill-formed, a cycle completes (R194). -/
theorem runCycle_completes {s : State} (hcw : cwIllFormed s.controlWord = false) : ∃ t, runCycle s = .next t := by
  obtain ⟨t, ht⟩ := runOps_completes (fun _ => wellFormed_of_mem_microOps (ir := s.cur.ir) hcw) s.beginCycle
  exact ⟨t.swap, by rw [runCycle, ht]⟩

/-- At a boundary the active control word is a row of the store (R41), so with a well-formed store no step faults. -/
theorem step_ne_fault {s : State} (hs : BoundaryInv s) (hstore : StoreWellFormed s.controlStore) (f : Fault) :
    step s ≠ .fault f := by
  have hcw : cwIllFormed s.controlWord = false := by
    rw [State.controlWord, hs.fetched]
    exact hstore s.cur.stateNumber
  obtain ⟨t, ht⟩ := runCycle_completes hcw
  unfold step stepOnce
  split
  · simp
  · split
    · simp
    · simp [ht]

/-- Settles O17, by induction on the length of the run: a step keeps the boundary invariant and the store. -/
theorem wellFormedStoreRunsWithoutFault : Obligations.WellFormedStoreRunsWithoutFault := by
  intro s hs hstore k f
  induction k generalizing s with
  | zero => exact fun h => nomatch h
  | succ k ih =>
    cases hstep : step s with
    | next t =>
      rw [run_succ_next hstep]
      exact ih t (everyStepKeepsTheBoundaryInvariant s t hs hstep) ((step_keeps_parameters hstep).1 ▸ hstore)
    | fault g => exact absurd hstep (step_ne_fault hs hstore g)
    | refused r =>
      rw [run_succ_refused hstep]
      exact fun h => nomatch h

/-! ### Frames -/

/-- Settles O19: the frame of every micro-operation, and the memory unit's own fields. -/
theorem opsWriteOnlyStagedState : Obligations.OpsWriteOnlyStagedState := by
  intro i s t h
  obtain ⟨hcur, hstore, hlat, hcount, hbus, hhalted⟩ := exec_frame h
  refine ⟨hcur, hstore, hlat, hcount, hbus, hhalted, fun hi => ?_⟩
  obtain ⟨hmem, hcounter, hready⟩ := exec_memoryFrame h hi
  exact ⟨hmem, hcounter, hready⟩

/-- Settles O20, by induction on the length of the run. -/
theorem controlStoreIsReadOnly : Obligations.ControlStoreIsReadOnly := by
  intro k s t h
  induction k generalizing s with
  | zero =>
    obtain rfl : s = t := Host.Outcome.next.inj h
    exact ⟨rfl, rfl⟩
  | succ k ih =>
    obtain ⟨u, hu, hrun⟩ := run_succ_next_inv h
    obtain ⟨hstore, hlat⟩ := step_keeps_parameters hu
    obtain ⟨hstore', hlat'⟩ := ih u hrun
    exact ⟨hstore'.trans hstore, hlat'.trans hlat⟩


/-! ### Branch enable (R186, R187) -/

/-- A micro-operation that is no `BEN` row leaves the staged `BEN` alone (R196). -/
theorem exec_keeps_ben {i : Instr} {s t : State} (h : exec i s = .next t) (hi : slotOf i ∉ [Slot.ldBen, .irBen]) :
    t.nxt.ben = s.nxt.ben := by
  cases exec_effect h with
  | commit l _ hl => exact hl.ben hi
  | nets | fetch | idle | count | transfer => rfl

/-- `BEN` of a latch set (R186). -/
def Latches.branchEnabled (l : Latches) : Bool :=
  branchEnable (irBit11 l.ir) (irBit10 l.ir) (irBit9 l.ir) l.n l.z l.p

/-- With `LD_BEN` both `BEN` rows of a cycle stage the value of the current latches. -/
theorem runOps_ben_rows {s t : State} (hld : cwLdBen s.controlWord = true)
    (h : runOps (slotOps [.ldBen, .irBen] s.controlWord s.cur.ir) s = .next t) : t.nxt.ben = s.cur.branchEnabled := by
  have hops : slotOps [.ldBen, .irBen] s.controlWord s.cur.ir = [.ldBen, irBenOf s.cur.ir] := by
    simp [slotOps_cons, slotOps_nil, decodeSlot, ldBenOf, hld]
  rw [hops] at h
  obtain ⟨u, hu, h⟩ := runOps_cons_inv h
  obtain ⟨v, hv, h⟩ := runOps_cons_inv h
  obtain rfl := Host.Outcome.next.inj h
  obtain rfl := Host.Outcome.next.inj hu
  obtain rfl := Host.Outcome.next.inj hv
  have hld' : cwLdBen s.cur.microinstruction = true := hld
  simp [State.controlWord, hld', Latches.branchEnabled]

/-- A completed cycle with `LD_BEN` leaves in `BEN` the value of the latches it began with, whatever else it loads. -/
theorem runCycle_ben {s t : State} (hld : cwLdBen s.controlWord = true) (h : runCycle s = .next t) :
    t.cur.ben = s.cur.branchEnabled := by
  obtain ⟨u, hu, rfl⟩ := runCycle_next_inv h
  have hsplit : sequencerSlots ++ Slot.mem :: (driverSlots ++ commitSlots) =
      (sequencerSlots ++ Slot.mem :: (driverSlots ++ [Slot.ldMar, .ldIr, .ldMdr])) ++
        ([Slot.ldBen, .irBen] ++ [Slot.ldReg, .ldPc, .ldCc]) := rfl
  rw [microOps_eq_slotOps, hsplit, slotOps_append, slotOps_append [.ldBen, .irBen]] at hu
  obtain ⟨v, hv, hu⟩ := runOps_append_inv hu
  obtain ⟨w, hw, hu⟩ := runOps_append_inv hu
  have hcur : v.cur = s.cur := (runOps_frame hv).cur
  have hben : w.nxt.ben = s.cur.branchEnabled := by
    rw [← hcur]
    exact runOps_ben_rows (by rwa [State.controlWord, hcur]) (by rwa [State.controlWord, hcur])
  have hother : ∀ k ∈ [Slot.ldReg, .ldPc, .ldCc], k ∉ [Slot.ldBen, .irBen] := by decide
  exact runOps_slotOps_keeps (P := (·.nxt.ben = s.cur.branchEnabled))
    (fun _ _ _ hi hex ha => (exec_keeps_ben hex (hother _ hi)).trans ha) hu hben

/-- Where one flag is set, some flag is. -/
theorem Latches.OneFlag.some_flag {l : Latches} (h : l.OneFlag) : (l.n || l.z || l.p) = true := by
  simp only [Latches.OneFlag, List.mem_cons, Prod.mk.injEq, List.not_mem_nil, or_false] at h
  rcases h with h | h | h <;> simp [h]

/-- `IR[11]`, `IR[10]` and `IR[9]` are the bits of register field A. -/
theorem irRegA_bits (ir : Word) :
    (irRegA ir).getLsbD 2 = ir.getLsbD 11 ∧ (irRegA ir).getLsbD 1 = ir.getLsbD 10 ∧
      (irRegA ir).getLsbD 0 = ir.getLsbD 9 := by
  simp [irRegA]

/-- Settles O26. The last clause rests on R42: one of the three flags is set. -/
theorem branchEnableFromCurrentFlags : Obligations.BranchEnableFromCurrentFlags := by
  intro s t hrun h hld
  have hben : t.cur.ben = ((s.cur.ir.getLsbD 11 && s.cur.n) || (s.cur.ir.getLsbD 10 && s.cur.z) ||
      (s.cur.ir.getLsbD 9 && s.cur.p)) := runCycle_ben hld (step_running hrun.1 hrun.2 ▸ h)
  obtain ⟨h11, h10, h9⟩ := irRegA_bits s.cur.ir
  refine ⟨hben, fun hzero => ?_, fun hones hs => ?_⟩
  · rw [hzero] at h11 h10 h9
    rw [hben, ← h11, ← h10, ← h9]
    rfl
  · rw [hones] at h11 h10 h9
    rw [hben, ← h11, ← h10, ← h9]
    exact Latches.OneFlag.some_flag (l := s.cur) hs.oneFlag

/-! ### Memory in canonical form (log 16) -/

/-- The first listed byte is the byte read at its address. -/
theorem Memory.read_head (a : Nat) (v : Byte) (rest : Memory) : Memory.read ((a, v) :: rest) a = v := by
  simp [Memory.read]

/-- A canonical memory whose every byte reads as unlisted lists nothing. -/
theorem Memory.eq_nil_of_read_unlisted {lo : Nat} {m : Memory} (hw : Memory.wfFrom lo m = true)
    (h : ∀ a, m.read a = Config.unlistedByte) : m = [] := by
  cases m with
  | nil => rfl
  | cons c rest =>
    obtain ⟨a, v⟩ := c
    obtain ⟨-, -, hv, -⟩ := (Memory.wfFrom_cons ..).1 hw
    exact absurd ((Memory.read_head a v rest).symm.trans (h a)) hv

/-- Two canonical memories that read alike list no byte below the other's first one. -/
theorem Memory.head_le_of_read_eq {lo lo' a b : Nat} {v w : Byte} {m m' : Memory}
    (hm : Memory.wfFrom lo ((a, v) :: m) = true) (hm' : Memory.wfFrom lo' ((b, w) :: m') = true)
    (h : Memory.read ((a, v) :: m) a = Memory.read ((b, w) :: m') a) : b ≤ a := by
  obtain ⟨-, -, hv, -⟩ := (Memory.wfFrom_cons ..).1 hm
  obtain ⟨-, hb, hw, hrest⟩ := (Memory.wfFrom_cons ..).1 hm'
  by_contra hlt
  have hbelow := Memory.read_below ((b, w) :: m') ((Memory.wfFrom_cons ..).2 ⟨le_rfl, hb, hw, hrest⟩) (by omega : a < b)
  exact hv (by rw [← Memory.read_head a v m, h, hbelow])

/-- Canonical memories that read alike are equal, above any bounds. -/
theorem Memory.eq_of_read_eq {lo lo' : Nat} {m m' : Memory} (hm : Memory.wfFrom lo m = true)
    (hm' : Memory.wfFrom lo' m' = true) (h : ∀ a, m.read a = m'.read a) : m = m' := by
  induction m generalizing lo lo' m' with
  | nil => exact (Memory.eq_nil_of_read_unlisted hm' fun a => (h a).symm).symm
  | cons c rest ih =>
    cases m' with
    | nil => exact Memory.eq_nil_of_read_unlisted hm h
    | cons c' rest' =>
      obtain ⟨a, v⟩ := c
      obtain ⟨b, w⟩ := c'
      obtain rfl : a = b := le_antisymm (Memory.head_le_of_read_eq hm' hm (h b).symm)
        (Memory.head_le_of_read_eq hm hm' (h a))
      obtain rfl : v = w := by simpa [Memory.read] using h a
      obtain ⟨-, -, -, hrest⟩ := (Memory.wfFrom_cons ..).1 hm
      obtain ⟨-, -, -, hrest'⟩ := (Memory.wfFrom_cons ..).1 hm'
      have htail : ∀ k, Memory.read rest k = Memory.read rest' k := by
        intro k
        by_cases hk : k = a
        · rw [hk, Memory.read_below rest hrest (by omega), Memory.read_below rest' hrest' (by omega)]
        · simpa [Memory.read, hk] using h k
      rw [ih hrest hrest' htail]

/-- Settles O30. -/
theorem equalReadsAreEqualMemories : Obligations.EqualReadsAreEqualMemories :=
  fun _ _ hm hm' h => Memory.eq_of_read_eq hm hm' h

/-! ### What no cycle depends on (R35, R38) -/

/-- The state with another cycle count and last bus value. -/
def State.withRecord (s : State) (k : Nat) (v : Word) : State := { s with cycleCount := k, lastBus := v }

@[simp] theorem State.withRecord_nets (s : State) (k : Nat) (v : Word) : (s.withRecord k v).nets = s.nets := rfl
@[simp] theorem State.withRecord_controlWord (s : State) (k : Nat) (v : Word) :
    (s.withRecord k v).controlWord = s.controlWord := rfl

theorem State.withRecord_ite (c : Prop) [Decidable c] (s t : State) (k : Nat) (v : Word) :
    (if c then s else t).withRecord k v = if c then s.withRecord k v else t.withRecord k v :=
  apply_ite (State.withRecord · k v) c s t

/-- A micro-operation acts alike whatever the record holds, and keeps it. -/
theorem exec_withRecord {i : Instr} {s t : State} (h : exec i s = .next t) (k : Nat) (v : Word) :
    exec i (s.withRecord k v) = .next (t.withRecord k v) := by
  cases i
  case ldPcReserved => exact nomatch h
  case irDispatch | irCondBit11 | irBenNzp | memRead | memWriteWord | memWriteByte =>
    obtain rfl := Host.Outcome.next.inj h
    rw [State.withRecord_ite]
    rfl
  case ldMdrMem =>
    obtain rfl := Host.Outcome.next.inj h
    simp only [exec, execLdMdrMem, State.withRecord_nets, State.withRecord_controlWord, State.withRecord_ite]
    cases s.nets.memRdata <;> rfl
  all_goals
    obtain rfl := Host.Outcome.next.inj h
    rfl

theorem runOps_withRecord {xs : List Instr} {s t : State} (h : runOps xs s = .next t) (k : Nat) (v : Word) :
    runOps xs (s.withRecord k v) = .next (t.withRecord k v) := by
  induction xs generalizing s with
  | nil =>
    obtain rfl := Host.Outcome.next.inj h
    rfl
  | cons i rest ih =>
    obtain ⟨u, hu, hr⟩ := runOps_cons_inv h
    rw [runOps_cons_next rest (exec_withRecord hu k v)]
    exact ih hr

/-- Settles O37: the swap overwrites `lastBus` and counts on from the other cycle count. -/
theorem countAndLastBusAreInvisible : Obligations.CountAndLastBusAreInvisible := by
  intro s t k v hrun h
  rw [step_running hrun.1 hrun.2] at h
  obtain ⟨u, hu, rfl⟩ := runCycle_next_inv h
  have hops : runOps (microOps (s.withRecord k v).controlWord (s.withRecord k v).cur.ir) (s.withRecord k v).beginCycle =
      .next (u.withRecord k v) := runOps_withRecord hu k v
  rw [← State.withRecord, step_running (s := s.withRecord k v) hrun.1 hrun.2, runCycle, hops]
  rfl

/-- Settles O38: a cycle begins by overwriting `nxt` and the nets (R37). -/
theorem stagedLatchesAndOldNetsAreInvisible : Obligations.StagedLatchesAndOldNetsAreInvisible := by
  intro s l w hrun
  have hbegin : State.beginCycle { s with nxt := l, nets := w } = s.beginCycle := rfl
  rw [step_running hrun.1 hrun.2, step_running (s := { s with nxt := l, nets := w }) hrun.1 hrun.2, runCycle, runCycle,
    hbegin]
  rfl


/-! ### The word operations on memory, at an even address (R51 to R53) -/

/-- The pair of an even byte address lies there and one above. -/
theorem pairLow_ofNat {a : Nat} (heven : a % 2 = 0) (ha : a < 65536) : pairLow (BitVec.ofNat 16 a) = a := by
  simp only [pairLow, BitVec.toNat_ushiftRight, BitVec.toNat_ofNat, Nat.shiftRight_eq_div_pow]
  omega

/-- A word is its two bytes, high byte first. -/
theorem highByte_append_lowByte (v : Word) : highByte v ++ lowByte v = v := by
  apply BitVec.eq_of_getLsbD_eq
  intro k hk
  simp only [highByte, lowByte, BitVec.getLsbD_append, BitVec.getLsbD_extractLsb']
  by_cases h : k < 8
  · simp [h]
  · simp [h, show k - 8 < 8 by omega, show 8 + (k - 8) = k by omega]

/-- The word written is the word read, in a canonical memory (R52, R53). -/
theorem memReadWord_memWriteWord_same (m : Memory) (a v : Word) (hw : m.wf = true) :
    memReadWord (memWriteWord m a v) a = v := by
  have hne : pairLow a ≠ pairHigh a := by
    rw [pairHigh_eq]
    omega
  have hlow := Memory.wf_write m (lowByte v) hw (pairLow_lt a)
  rw [memReadWord, memWriteWord, Memory.read_write_same _ _ _ hlow, Memory.read_write_other _ _ _ _ hne,
    Memory.read_write_same _ _ _ hw, highByte_append_lowByte]

/-- A word write leaves the bytes outside its pair alone (R53). -/
theorem read_memWriteWord_other (m : Memory) (a v : Word) {k : Nat} (hlow : k ≠ pairLow a) (hhigh : k ≠ pairHigh a) :
    (memWriteWord m a v).read k = m.read k := by
  rw [memWriteWord, Memory.read_write_other _ _ _ _ hhigh, Memory.read_write_other _ _ _ _ hlow]

/-! ### The image load (R245) -/

/-- Loading an image leaves the bytes outside it alone. -/
theorem read_storeImage_outside {a k : Nat} (ws : List Word) (m : Memory) (heven : a % 2 = 0)
    (hfit : a + 2 * ws.length ≤ 65536) (hk : k < a ∨ a + 2 * ws.length ≤ k) : (storeImage a ws m).read k = m.read k := by
  induction ws generalizing a m with
  | nil => rfl
  | cons w rest ih =>
    rw [List.length_cons] at hfit hk
    have hpair := pairLow_ofNat heven (by omega : a < 65536)
    rw [storeImage, ih _ (by omega) (by omega) (by omega)]
    exact read_memWriteWord_other _ _ _ (by omega) (by rw [pairHigh_eq]; omega)

/-- Every word of a loaded image reads back at its address. -/
theorem memReadWord_storeImage {a k : Nat} {w : Word} (ws : List Word) (m : Memory) (hm : m.wf = true)
    (heven : a % 2 = 0) (hfit : a + 2 * ws.length ≤ 65536) (hk : ws[k]? = some w) :
    memReadWord (storeImage a ws m) (BitVec.ofNat 16 (a + 2 * k)) = w := by
  induction ws generalizing a k m with
  | nil => simp at hk
  | cons v rest ih =>
    rw [List.length_cons] at hfit
    rw [storeImage]
    cases k with
    | zero =>
      obtain rfl : v = w := by simpa using hk
      have hpair := pairLow_ofNat heven (by omega : a < 65536)
      have hout : ∀ b, b = pairLow (BitVec.ofNat 16 a) ∨ b = pairHigh (BitVec.ofNat 16 a) →
          (storeImage (a + 2) rest (memWriteWord m (BitVec.ofNat 16 a) v)).read b =
            (memWriteWord m (BitVec.ofNat 16 a) v).read b := by
        intro b hb
        rw [pairHigh_eq] at hb
        exact read_storeImage_outside rest _ (by omega) (by omega) (by omega)
      simp only [Nat.mul_zero, Nat.add_zero]
      rw [memReadWord, hout _ (.inl rfl), hout _ (.inr rfl)]
      exact memReadWord_memWriteWord_same m _ v hm
    | succ k =>
      rw [show a + 2 * (k + 1) = a + 2 + 2 * k by omega]
      exact ih _ (memWriteWord_wf m _ v hm) (by omega) (by omega) (by simpa using hk)

/-- The load address is even (R242). -/
theorem loadAddress_even (base : Word) : (loadAddress base).toNat % 2 = 0 := by
  have hbit : (loadAddress base).getLsbD 0 = false := by simp [loadAddress]
  rw [BitVec.getLsbD, Nat.testBit_zero] at hbit
  simpa using hbit

/-- An image that loads has a base word, fits below 2^16, and is stored from its load address on (R245, R246). -/
theorem loadImage_ok_inv {words : List Word} {base : Word} {m : Memory} (h : loadImage words = .ok (base, m)) :
    ∃ ws, words = base :: ws ∧ (loadAddress base).toNat + 2 * ws.length ≤ 65536 ∧
      m = storeImage (loadAddress base).toNat ws [] := by
  cases words with
  | nil => exact nomatch h
  | cons b ws =>
    rw [loadImage] at h
    split at h
    · exact nomatch h
    · next hfit =>
      obtain ⟨rfl, rfl⟩ := Prod.mk.inj (Except.ok.inj h)
      exact ⟨ws, rfl, by omega, rfl⟩

/-- What a successful load did (R240): both files were read and accepted, and the latches set. -/
theorem boot_ok_inv {inp : LoadInputs} {s : State} (h : boot inp = .ok s) :
    ∃ lines text store words base m, inp.microcode = some lines ∧ inp.image = some text ∧
      loadControlStore lines = .ok store ∧ readWords text = .ok words ∧ loadImage words = .ok (base, m) ∧
      s = State.afterLoad inp.memCycles inp.initialState store base m := by
  unfold boot at h
  split at h
  · next lines text hlines htext =>
    split at h
    · exact nomatch h
    · exact nomatch h
    · next store words hstore hwords =>
      split at h
      · exact nomatch h
      · next base m himage =>
        exact ⟨lines, text, store, words, base, m, hlines, htext, hstore, hwords, himage, (Except.ok.inj h).symm⟩
  · exact nomatch h

/-- Settles O10: the latches are those of `State.afterLoad`, and the memory is the stored image. -/
theorem loadedStateFieldByField : Obligations.LoadedStateFieldByField := by
  intro inp s h
  obtain ⟨lines, text, store, words, base, m, hlines, htext, hstore, hwords, himage, rfl⟩ := boot_ok_inv h
  obtain ⟨ws, rfl, hfit, rfl⟩ := loadImage_ok_inv himage
  refine ⟨lines, text, store, base, ws, hlines, htext, hstore, hwords, rfl, rfl, rfl, rfl, rfl, rfl, rfl, rfl, rfl, ?_,
    rfl, rfl, rfl, rfl, rfl, rfl, rfl, rfl, rfl, fun k w hk => ?_, fun a ha => ?_⟩
  · intro i
    exact Vector.getElem_replicate _
  · exact memReadWord_storeImage ws [] rfl (loadAddress_even base) hfit hk
  · exact read_storeImage_outside ws [] (loadAddress_even base) hfit ha

/-- The state after a load has the boundary invariant, where memory is canonical and the latency at least 2. -/
theorem afterLoad_boundaryInv {memCycles : Nat} {m : Memory} (initialState : MicroState)
    (store : Vector ControlWord 64) (base : Word) (hlat : 2 ≤ memCycles) (hm : m.wf = true) :
    BoundaryInv (State.afterLoad memCycles initialState store base m) where
  staged := rfl
  netsIdle := rfl
  fetched := rfl
  oneFlag := .tail _ (.head _)
  latency := hlat
  counter := (timerInRange_zero hlat).1
  ready := (timerInRange_zero hlat).2
  memory := hm
  haltedAtZero := fun hh => nomatch hh

/-- Settles O9. -/
theorem loadAndResetEstablishTheBoundaryInvariant : Obligations.LoadAndResetEstablishTheBoundaryInvariant := by
  refine ⟨afterLoad_boundaryInv _ _ _ (by decide) rfl, fun inp s h hlat => ?_⟩
  obtain ⟨lines, text, store, words, base, m, -, -, -, -, himage, rfl⟩ := boot_ok_inv h
  obtain ⟨ws, -, -, rfl⟩ := loadImage_ok_inv himage
  exact afterLoad_boundaryInv _ _ _ hlat (storeImage_wf _ _ _ rfl)

/-! ### The register dump (R226, R40) -/

/-- A step of a halted machine is refused (R248). -/
theorem step_of_halted {s : State} (h : s.halted = true) : step s = .refused .alreadyHalted := by
  simp [step, stepOnce, h]

/-- A step of a machine that stands at `PC = 0` is the halt test alone (R248). -/
theorem step_at_zero {s : State} (hh : s.halted = false) (hp : s.cur.pc = 0#16) : step s = .next s.halt := by
  simp [step, stepOnce, hh, hp]

/-- Settles O55. -/
theorem registerDumpShowsTheOutputs : Obligations.RegisterDumpShowsTheOutputs :=
  fun s => ⟨rfl, rfl, rfl, rfl, fun hh hp => ⟨s.halt, step_at_zero hh hp, dump_halt s⟩, step_of_halted⟩

end Sys2Proof.Machine
end

section
/-! SUPPORT. Memory byte by byte, what a cycle does to it, and what a read transfer loads: the statements of
20_memory.md. -/

namespace Sys2Proof.Machine

/-! ### The bytes of a word, and where an address lies in its pair (R51) -/

theorem toNat_lowByte (v : Word) : (lowByte v).toNat = v.toNat % 256 := by
  simp [lowByte, BitVec.extractLsb'_toNat]

theorem toNat_highByte (v : Word) : (highByte v).toNat = v.toNat / 256 := by
  have hv : v.toNat < 65536 := v.isLt
  simp only [highByte, BitVec.extractLsb'_toNat, Nat.shiftRight_eq_div_pow]
  omega

theorem toNat_storeByte (mar mdr : Word) :
    (storeByte mar mdr).toNat = if mar.getLsbD 0 then mdr.toNat / 256 else mdr.toNat % 256 := by
  rw [storeByte, apply_ite BitVec.toNat, toNat_highByte, toNat_lowByte]

/-- The low byte of a pair lies at the even address. -/
theorem pairLow_eq (a : Word) : pairLow a = a.toNat / 2 * 2 := by
  rw [pairLow, BitVec.toNat_ushiftRight, Nat.shiftRight_eq_div_pow]
  omega

/-- `a[0]` says which byte of its pair an address names. -/
theorem toNat_eq_pair (a : Word) : a.toNat = if a.getLsbD 0 then pairHigh a else pairLow a := by
  rw [pairHigh_eq, pairLow_eq, BitVec.getLsbD, Nat.testBit_zero]
  split
  · next h =>
    have hodd : a.toNat % 2 = 1 := by simpa using h
    omega
  · next h =>
    have heven : a.toNat % 2 ≠ 1 := by simpa using h
    omega

/-! ### The accesses of R52 to R54, byte by byte -/

/-- A word read depends on the pair of its address only: `a[0]` is ignored (R52, D13). -/
theorem memReadWord_eq_of_same_pair (m : Memory) {a b : Word} (h : a.toNat / 2 = b.toNat / 2) :
    memReadWord m a = memReadWord m b := by
  simp only [memReadWord, pairHigh_eq, pairLow_eq, h]

/-- The value of a word read: the byte at the odd address is the high one (R52). -/
theorem toNat_memReadWord (m : Memory) (a : Word) :
    (memReadWord m a).toNat = (m.read (pairHigh a)).toNat * 256 + (m.read (pairLow a)).toNat := by
  rw [memReadWord, BitVec.toNat_append, Nat.shiftLeft_eq, mul_comm _ (2 ^ 8),
    ← Nat.two_pow_add_eq_or_of_lt (m.read (pairLow a)).isLt]

/-- A word write puts the low byte at the even address of the pair (R53). -/
theorem read_memWriteWord_low (m : Memory) (a v : Word) (hw : m.wf = true) :
    (memWriteWord m a v).read (pairLow a) = lowByte v := by
  have hne : pairLow a ≠ pairHigh a := by
    rw [pairHigh_eq]
    omega
  rw [memWriteWord, Memory.read_write_other _ _ _ _ hne, Memory.read_write_same _ _ _ hw]

/-- A word write puts the high byte at the odd address of the pair (R53). -/
theorem read_memWriteWord_high (m : Memory) (a v : Word) (hw : m.wf = true) :
    (memWriteWord m a v).read (pairHigh a) = highByte v :=
  Memory.read_write_same _ _ _ (Memory.wf_write m (lowByte v) hw (pairLow_lt a))

/-- A byte write is a write at the address itself: the half of the pair that `a[0]` selects lies there (R54). -/
theorem memWriteByte_eq_write (m : Memory) (a : Word) (b : Byte) : memWriteByte m a b = m.write a.toNat b := by
  rw [memWriteByte, toNat_eq_pair]
  split <;> rfl

/-- Settles O28. -/
theorem wordWriteRoundTrip : Obligations.WordWriteRoundTrip := by
  intro m a b v hm
  rw [← pairLow_eq, ← pairHigh_eq]
  refine ⟨fun hab => ?_, ?_, ?_, fun k hk => ?_⟩
  · rw [← memReadWord_eq_of_same_pair _ hab]
    exact memReadWord_memWriteWord_same m a v hm
  · rw [read_memWriteWord_low m a v hm, toNat_lowByte]
  · rw [read_memWriteWord_high m a v hm, toNat_highByte]
  · have hlow : k ≠ pairLow a := by
      rw [pairLow_eq]
      omega
    have hhigh : k ≠ pairHigh a := by
      rw [pairHigh_eq, pairLow_eq]
      omega
    exact read_memWriteWord_other m a v hlow hhigh

/-- Settles O29: a byte write is one write at its address. -/
theorem byteWriteKeepsTheOtherByte : Obligations.ByteWriteKeepsTheOtherByte := by
  intro m a b hm
  rw [memWriteByte_eq_write]
  exact ⟨Memory.read_write_same m a.toNat b hm, fun k hk => Memory.read_write_other m a.toNat k b hk⟩

/-! ### Memory after a cycle (R122, R125, R126) -/

/-- A completed cycle around its memory unit, which acts on the latches and the memory the cycle began with; what
follows are the rows of the later units. -/
theorem runCycle_memory_unit {s t : State} (h : runCycle s = .next t) :
    ∃ u v w, u.cur = s.cur ∧ MemoryFrame s.beginCycle u ∧ exec (memOf s.controlWord) u = .next v ∧
      runOps (slotOps (driverSlots ++ commitSlots) s.controlWord s.cur.ir) v = .next w ∧ t = w.swap := by
  obtain ⟨w, hops, rfl⟩ := runCycle_next_inv h
  rw [microOps_eq_slotOps, slotOps_append] at hops
  obtain ⟨u, hu, hops⟩ := runOps_append_inv hops
  obtain ⟨v, hv, hw⟩ := runOps_cons_inv (i := memOf s.controlWord) hops
  exact ⟨u, v, w, (runOps_frame hu).cur, runOps_memoryFrame hu (by decide), hv, hw, rfl⟩

/-- The read row leaves memory alone (R124). -/
theorem exec_memRead_mem {s t : State} (h : exec .memRead s = .next t) : t.mem = s.mem := by
  obtain rfl := Host.Outcome.next.inj h
  split <;> rfl

/-- The word-write row writes `MDR` in the transfer cycle (R125). -/
theorem exec_memWriteWord_mem {s t : State} (h : exec .memWriteWord s = .next t) :
    t.mem = if s.cur.ready then memWriteWord s.mem s.cur.mar s.cur.mdr else s.mem := by
  obtain rfl := Host.Outcome.next.inj h
  split <;> rfl

/-- The byte-write row writes the half of `MDR` at the byte's position, in the transfer cycle (R126). -/
theorem exec_memWriteByte_mem {s t : State} (h : exec .memWriteByte s = .next t) :
    t.mem = if s.cur.ready then memWriteByte s.mem s.cur.mar (storeByte s.cur.mar s.cur.mdr) else s.mem := by
  obtain rfl := Host.Outcome.next.inj h
  split <;> rfl

/-- Without a write transfer a cycle keeps memory. -/
theorem wholeMem_of_no_write {cw : ControlWord} {l : Latches} (m : Memory)
    (h : (cwMioEn cw && l.ready && cwRW cw) = false) : wholeMem cw l m = m := by
  simp [wholeMem, wholeTransfers, h]

/-- A word-write transfer (R125). -/
theorem wholeMem_word {cw : ControlWord} {l : Latches} (m : Memory)
    (h : (cwMioEn cw && l.ready && cwRW cw) = true) (hsize : cwDataSize cw = true) :
    wholeMem cw l m = memWriteWord m l.mar l.mdr := by
  simp only [wholeMem, wholeTransfers, h, hsize, if_true]

/-- A byte-write transfer (R126). -/
theorem wholeMem_byte {cw : ControlWord} {l : Latches} (m : Memory)
    (h : (cwMioEn cw && l.ready && cwRW cw) = true) (hsize : cwDataSize cw = false) :
    wholeMem cw l m = memWriteByte m l.mar (storeByte l.mar l.mdr) := by
  simp only [wholeMem, wholeTransfers, h, hsize, if_true, Bool.false_eq_true, if_false]
  rfl

/-- The memory row of a control word leaves the memory of the cycle in one piece (R128). -/
theorem exec_memOf_mem {cw : ControlWord} {s t : State} (h : exec (memOf cw) s = .next t) :
    t.mem = wholeMem cw s.cur s.mem := by
  unfold memOf at h
  split at h
  · next hmio =>
    split at h
    · next hrw =>
      split at h
      · next hsize =>
        rw [exec_memWriteWord_mem h]
        split
        · next hr => exact (wholeMem_word _ (by simp [hmio, hr, hrw]) hsize).symm
        · next hr => exact (wholeMem_of_no_write _ (by simp [hr])).symm
      · next hsize =>
        rw [exec_memWriteByte_mem h]
        split
        · next hr => exact (wholeMem_byte _ (by simp [hmio, hr, hrw]) (by simpa using hsize)).symm
        · next hr => exact (wholeMem_of_no_write _ (by simp [hr])).symm
    · next hrw => rw [exec_memRead_mem h, wholeMem_of_no_write _ (by simp [hrw])]
  · next hmio =>
    obtain rfl := Host.Outcome.next.inj h
    exact (wholeMem_of_no_write _ (by simp [hmio])).symm

/-- A completed cycle leaves the memory that the cycle in one piece has. -/
theorem runCycle_mem {s t : State} (h : runCycle s = .next t) : t.mem = wholeMem s.controlWord s.cur s.mem := by
  obtain ⟨u, v, w, hcur, hframe, hv, hw, rfl⟩ := runCycle_memory_unit h
  calc w.mem = v.mem := (runOps_memoryFrame hw (by decide)).mem
    _ = wholeMem s.controlWord u.cur u.mem := exec_memOf_mem hv
    _ = wholeMem s.controlWord s.cur s.mem := by rw [hcur, hframe.mem, State.beginCycle_mem]

/-- Settles O32: the three cases of `wholeMem`, each read byte by byte. -/
theorem memoryChangesOnlyByAWriteTransfer : Obligations.MemoryChangesOnlyByAWriteTransfer := by
  intro s t hwf ⟨hh, hp⟩ h
  have hmem := runCycle_mem (step_running hh hp ▸ h)
  rw [State.controlWord] at hmem
  refine ⟨fun hno => ?_, fun hwrite hsize => ?_, fun hwrite hsize => ?_⟩
  · rw [hmem, wholeMem_of_no_write _ hno]
  · rw [hmem, wholeMem_word _ hwrite hsize, read_memWriteWord_low _ _ _ hwf, read_memWriteWord_high _ _ _ hwf]
    exact ⟨toNat_lowByte _, toNat_highByte _, fun k hlow hhigh => read_memWriteWord_other _ _ _ hlow hhigh⟩
  · rw [hmem, wholeMem_byte _ hwrite hsize]
    obtain ⟨hsame, hother⟩ := byteWriteKeepsTheOtherByte s.mem s.cur.mar (storeByte s.cur.mar s.cur.mdr) hwf
    exact ⟨by rw [hsame, toNat_storeByte], hother⟩

/-! ### What a read transfer loads (R124, R183) -/

/-- `MEM_DONE` is 1 and `MEM_RDATA` is a word: what the memory unit hands on in the cycle a read completes. -/
def ReadDone (v : Word) (s : State) : Prop := s.nets.memDone = true ∧ s.nets.memRdata = some v

/-- The read row completes in a transfer cycle with the word at `MAR` (R123, R124). -/
theorem exec_memRead_readDone {s t : State} (hr : s.cur.ready = true) (h : exec .memRead s = .next t) :
    ReadDone (memReadWord s.mem s.cur.mar) t := by
  obtain rfl := Host.Outcome.next.inj h
  rw [if_pos hr]
  exact ⟨rfl, rfl⟩

/-- A micro-operation of another unit keeps the read result. -/
theorem exec_keeps_readDone {i : Instr} {v : Word} {s t : State} (h : exec i s = .next t) (hi : slotOf i ≠ .mem)
    (hs : ReadDone v s) : ReadDone v t := by
  cases i
  case ldPcReserved => exact nomatch h
  case memIdle | memRead | memWriteWord | memWriteByte => exact absurd rfl hi
  case irDispatch | irCondBit11 | irBenNzp =>
    obtain rfl := Host.Outcome.next.inj h
    split <;> exact hs
  case ldMdrMem =>
    obtain rfl := Host.Outcome.next.inj h
    split
    · split <;> exact hs
    · exact hs
  all_goals
    obtain rfl := Host.Outcome.next.inj h
    exact hs

/-- Only the `MDR` rows write the staged `MDR`. -/
theorem exec_keeps_mdr {i : Instr} {s t : State} (h : exec i s = .next t) (hi : slotOf i ≠ .ldMdr) :
    t.nxt.mdr = s.nxt.mdr := by
  cases i
  case ldPcReserved => exact nomatch h
  case ldMdrMem | ldMdrBusWord | ldMdrBusByte => exact absurd rfl hi
  case irDispatch | irCondBit11 | irBenNzp | memRead | memWriteWord | memWriteByte =>
    obtain rfl := Host.Outcome.next.inj h
    split <;> rfl
  all_goals
    obtain rfl := Host.Outcome.next.inj h
    rfl

/-- The `MDR` row of a read takes the read result (R183). -/
theorem exec_ldMdrMem_mdr {v : Word} {s t : State} (hrw : cwRW s.controlWord = false) (hs : ReadDone v s)
    (h : exec .ldMdrMem s = .next t) : t.nxt.mdr = v := by
  obtain ⟨hdone, hdata⟩ := hs
  obtain rfl := Host.Outcome.next.inj h
  simp [hdone, hdata, hrw]

/-- A completed cycle with `LD_MDR` in which a read completes leaves in `MDR` the word at `MAR`. -/
theorem runCycle_read_mdr {s t : State} (hld : cwLdMdr s.controlWord = true) (hmio : cwMioEn s.controlWord = true)
    (hrw : cwRW s.controlWord = false) (hr : s.cur.ready = true) (h : runCycle s = .next t) :
    t.cur.mdr = memReadWord s.mem s.cur.mar := by
  obtain ⟨u, v, w, hcur, hframe, hv, hw, rfl⟩ := runCycle_memory_unit h
  have hread : memOf s.controlWord = .memRead := by simp [memOf, hmio, hrw]
  have hrow : decodeSlot .ldMdr s.controlWord s.cur.ir = some .ldMdrMem := by simp [decodeSlot, ldMdrOf, hld, hmio]
  have hsplit : driverSlots ++ commitSlots =
      (driverSlots ++ [.ldMar, .ldIr]) ++ .ldMdr :: [.ldBen, .irBen, .ldReg, .ldPc, .ldCc] := rfl
  have hdone : ReadDone (memReadWord s.mem s.cur.mar) v := by
    have hu := exec_memRead_readDone (by rwa [hcur]) (hread ▸ hv)
    rwa [hcur, hframe.mem] at hu
  rw [hsplit, slotOps_append, slotOps_cons, hrow] at hw
  obtain ⟨x, hx, hw⟩ := runOps_append_inv hw
  obtain ⟨y, hy, hw⟩ := runOps_cons_inv (i := .ldMdrMem) hw
  have hbefore : ∀ k ∈ driverSlots ++ [.ldMar, .ldIr], k ≠ .mem := by decide
  have hafter : ∀ k ∈ [Slot.ldBen, .irBen, .ldReg, .ldPc, .ldCc], k ≠ .ldMdr := by decide
  have hcurx : x.cur = s.cur := by
    rw [(runOps_frame hx).cur, (exec_frame hv).cur, hcur]
  have hdonex : ReadDone (memReadWord s.mem s.cur.mar) x :=
    runOps_slotOps_keeps (fun _ _ _ hi hex => exec_keeps_readDone hex (hbefore _ hi)) hx hdone
  have hmdr : y.nxt.mdr = memReadWord s.mem s.cur.mar :=
    exec_ldMdrMem_mdr (by rwa [State.controlWord, hcurx]) hdonex hy
  exact runOps_slotOps_keeps (P := (·.nxt.mdr = memReadWord s.mem s.cur.mar))
    (fun _ _ _ hi hex ha => (exec_keeps_mdr hex (hafter _ hi)).trans ha) hw hmdr

/-- Settles O33: a read writes no byte, and the bytes of the word read are those of `MAR`'s pair. -/
theorem readTransferLoadsMdr : Obligations.ReadTransferLoadsMdr := by
  intro s t ⟨hh, hp⟩ h hld hmio hrw hr
  have hcycle : runCycle s = .next t := step_running hh hp ▸ h
  refine ⟨?_, ?_⟩
  · rw [runCycle_read_mdr hld hmio hrw hr hcycle, toNat_memReadWord]
  · rw [runCycle_mem hcycle, wholeMem_of_no_write]
    simp [State.controlWord, hrw]

end Sys2Proof.Machine
end

section
/-! SUPPORT. The encoding: the fields each row fixes, the decoder and the patterns read off from them, control-store
text, and the rows whose stop or effect the encoding decides. The statements of 30_encoding.md. -/

namespace Sys2Proof.Machine

/-! ### Fields of a word, and masks made of them -/

/-- The `len` bits of an `n`-bit word from bit `lo` on, with the value a row wants there. -/
structure BitField (n : Nat) where
  lo : Nat
  len : Nat
  value : BitVec len

/-- A field of one bit. -/
def BitField.flag {n : Nat} (k : Nat) (b : Bool) : BitField n := ⟨k, 1, BitVec.ofBool b⟩

/-- The bits of a field. -/
def BitField.mask {n : Nat} (f : BitField n) : BitVec n := (BitVec.allOnes f.len).setWidth n <<< f.lo

/-- The value of a field, in its place. -/
def BitField.bits {n : Nat} (f : BitField n) : BitVec n := f.value.setWidth n <<< f.lo

/-- A word holds the value of a field. -/
def BitField.HeldBy {n : Nat} (f : BitField n) (x : BitVec n) : Prop := x.extractLsb' f.lo f.len = f.value

/-- A field lies inside the word. -/
def BitField.Inside {n : Nat} (f : BitField n) : Prop := f.lo + f.len ≤ n

/-- Two fields share no bit. -/
def BitField.Apart {n : Nat} (f g : BitField n) : Prop := f.lo + f.len ≤ g.lo ∨ g.lo + g.len ≤ f.lo

/-- The bits of several fields. -/
def fieldsMask {n : Nat} (fs : List (BitField n)) : BitVec n := fs.foldr (fun f m => f.mask ||| m) 0#n

/-- The values of several fields, in their places. -/
def fieldsBits {n : Nat} (fs : List (BitField n)) : BitVec n := fs.foldr (fun f b => f.bits ||| b) 0#n

@[simp] theorem BitField.mk_heldBy_iff {n : Nat} (lo len : Nat) (v : BitVec len) (x : BitVec n) :
    (BitField.mk lo len v).HeldBy x ↔ x.extractLsb' lo len = v := Iff.rfl

/-- A one-bit field is held where its bit has the value. -/
@[simp] theorem BitField.flag_heldBy_iff {n : Nat} (k : Nat) (b : Bool) (x : BitVec n) :
    (BitField.flag k b).HeldBy x ↔ x.getLsbD k = b := by
  constructor
  · intro h
    have hbit := congrArg (BitVec.getLsbD · 0) h
    simpa [flag] using hbit
  · intro h
    refine BitVec.eq_of_getLsbD_eq fun i hi => ?_
    obtain rfl : i = 0 := by simpa [flag] using hi
    simpa [flag] using h

theorem BitField.getLsbD_mask {n : Nat} (f : BitField n) {k : Nat} (hk : k < n) :
    f.mask.getLsbD k = (decide (f.lo ≤ k) && decide (k < f.lo + f.len)) := by
  simp only [mask, BitVec.getLsbD_shiftLeft, BitVec.getLsbD_setWidth, BitVec.getLsbD_allOnes]
  grind

theorem BitField.getLsbD_bits {n : Nat} (f : BitField n) {k : Nat} (hk : k < n) :
    f.bits.getLsbD k = (decide (f.lo ≤ k) && f.value.getLsbD (k - f.lo)) := by
  simp only [bits, BitVec.getLsbD_shiftLeft, BitVec.getLsbD_setWidth]
  grind

/-- The value of a field lies under its mask. -/
theorem BitField.bits_and_mask {n : Nat} (f : BitField n) : f.bits &&& f.mask = f.bits := by
  refine BitVec.eq_of_getLsbD_eq fun k hk => ?_
  have hout : ¬ k < f.lo + f.len → f.lo ≤ k → f.value.getLsbD (k - f.lo) = false := fun h h' =>
    BitVec.getLsbD_of_ge _ _ (by omega)
  rw [BitVec.getLsbD_and, f.getLsbD_bits hk, f.getLsbD_mask hk]
  grind

/-- A word under the mask of a field is the value in its place exactly when the word holds it. -/
theorem BitField.and_mask_eq_bits_iff {n : Nat} {f : BitField n} (hf : f.Inside) (x : BitVec n) :
    x &&& f.mask = f.bits ↔ f.HeldBy x := by
  unfold BitField.Inside at hf
  constructor
  · intro h
    refine BitVec.eq_of_getLsbD_eq fun i hi => ?_
    have hbit := congrArg (BitVec.getLsbD · (f.lo + i)) h
    simp only [BitVec.getLsbD_and, f.getLsbD_mask (show f.lo + i < n by omega),
      f.getLsbD_bits (show f.lo + i < n by omega)] at hbit
    simpa [hi] using hbit
  · intro h
    refine BitVec.eq_of_getLsbD_eq fun k hk => ?_
    have hval : f.value.getLsbD (k - f.lo) = (x.extractLsb' f.lo f.len).getLsbD (k - f.lo) := by rw [h]
    rw [BitVec.getLsbD_and, f.getLsbD_mask hk, f.getLsbD_bits hk, hval, BitVec.getLsbD_extractLsb']
    grind

/-- Two disjoint masks are tested together exactly when each is tested alone. -/
theorem and_or_eq_or_iff {n : Nat} {m m' b b' : BitVec n} (hm : m &&& m' = 0#n) (hb : b &&& m = b)
    (hb' : b' &&& m' = b') (x : BitVec n) : x &&& (m ||| m') = b ||| b' ↔ x &&& m = b ∧ x &&& m' = b' := by
  constructor
  · intro h
    have hbit : ∀ k, ((x.getLsbD k && (m.getLsbD k || m'.getLsbD k)) = (b.getLsbD k || b'.getLsbD k)) ∧
        (m.getLsbD k && m'.getLsbD k) = false ∧ (b.getLsbD k && m.getLsbD k) = b.getLsbD k ∧
        (b'.getLsbD k && m'.getLsbD k) = b'.getLsbD k := fun k =>
      ⟨by simpa using congrArg (BitVec.getLsbD · k) h, by simpa using congrArg (BitVec.getLsbD · k) hm,
        by simpa using congrArg (BitVec.getLsbD · k) hb, by simpa using congrArg (BitVec.getLsbD · k) hb'⟩
    constructor <;>
    · refine BitVec.eq_of_getLsbD_eq fun k _ => ?_
      have := hbit k
      rw [BitVec.getLsbD_and]
      grind
  · rintro ⟨rfl, rfl⟩
    refine BitVec.eq_of_getLsbD_eq fun k _ => ?_
    simp [Bool.and_or_distrib_left]

/-- The values of several fields lie under their mask. -/
theorem fieldsBits_and_fieldsMask {n : Nat} (fs : List (BitField n)) :
    fieldsBits fs &&& fieldsMask fs = fieldsBits fs := by
  induction fs with
  | nil => simp [fieldsBits]
  | cons f fs ih =>
    have hf := f.bits_and_mask
    refine BitVec.eq_of_getLsbD_eq fun k _ => ?_
    have hbit := congrArg (BitVec.getLsbD · k) hf
    have hbits := congrArg (BitVec.getLsbD · k) ih
    simp only [fieldsBits, fieldsMask, List.foldr_cons, BitVec.getLsbD_and, BitVec.getLsbD_or] at hbit hbits ⊢
    grind

/-- A field apart from several others shares no bit with their mask. -/
theorem mask_and_fieldsMask {n : Nat} {f : BitField n} {fs : List (BitField n)} (h : ∀ g ∈ fs, f.Apart g) :
    f.mask &&& fieldsMask fs = 0#n := by
  induction fs with
  | nil => simp [fieldsMask]
  | cons g fs ih =>
    obtain ⟨hg, hfs⟩ := List.forall_mem_cons.1 h
    refine BitVec.eq_of_getLsbD_eq fun k hk => ?_
    have hbits := congrArg (BitVec.getLsbD · k) (ih hfs)
    unfold BitField.Apart at hg
    simp only [fieldsMask, List.foldr_cons, BitVec.getLsbD_and, BitVec.getLsbD_or, f.getLsbD_mask hk,
      g.getLsbD_mask hk, BitVec.getLsbD_zero] at hbits ⊢
    grind

/-- A mask made of fields is tested field by field. -/
theorem and_fieldsMask_eq_fieldsBits_iff {n : Nat} {fs : List (BitField n)} (hin : ∀ f ∈ fs, f.Inside)
    (hfs : fs.Pairwise BitField.Apart) (x : BitVec n) :
    x &&& fieldsMask fs = fieldsBits fs ↔ ∀ f ∈ fs, f.HeldBy x := by
  induction fs with
  | nil => simp [fieldsMask, fieldsBits]
  | cons f fs ih =>
    obtain ⟨hf, hfs⟩ := List.pairwise_cons.1 hfs
    obtain ⟨hinf, hin⟩ := List.forall_mem_cons.1 hin
    have hsplit := and_or_eq_or_iff (mask_and_fieldsMask hf) f.bits_and_mask (fieldsBits_and_fieldsMask fs) x
    rw [List.forall_mem_cons, ← f.and_mask_eq_bits_iff hinf, ← ih hin hfs]
    exact hsplit

/-! ### The fields that a row of the table fixes (R70, R74, R76) -/

/-- The fields fixed by a row of either format. -/
inductive RowFields where
  | cw (fs : List (BitField 35))
  | ir (fs : List (BitField 16))

/-- The mask and match of a row, from its fields. -/
def RowFields.pattern : RowFields → Pattern
  | .cw fs => .cw (fieldsMask fs) (fieldsBits fs)
  | .ir fs => .ir (fieldsMask fs) (fieldsBits fs)

/-- The control word or the `IR` value holds every field of a row. -/
def RowFields.HeldBy : RowFields → ControlWord → Word → Prop
  | .cw fs, word, _ => ∀ f ∈ fs, f.HeldBy word
  | .ir fs, _, word => ∀ f ∈ fs, f.HeldBy word

@[simp] theorem RowFields.cw_heldBy_iff (fs : List (BitField 35)) (cw : ControlWord) (ir : Word) :
    (RowFields.cw fs).HeldBy cw ir ↔ ∀ f ∈ fs, f.HeldBy cw := Iff.rfl

@[simp] theorem RowFields.ir_heldBy_iff (fs : List (BitField 16)) (cw : ControlWord) (ir : Word) :
    (RowFields.ir fs).HeldBy cw ir ↔ ∀ f ∈ fs, f.HeldBy ir := Iff.rfl

/-- The fields of a row lie inside its word and share no bit. -/
def RowFields.Sound : RowFields → Prop
  | .cw fs => (∀ f ∈ fs, f.Inside) ∧ fs.Pairwise BitField.Apart
  | .ir fs => (∀ f ∈ fs, f.Inside) ∧ fs.Pairwise BitField.Apart

/-- A word fits a row's pattern exactly when it holds the row's fields. -/
theorem RowFields.fits_pattern_iff {r : RowFields} (hr : r.Sound) (cw : ControlWord) (ir : Word) :
    r.pattern.fits cw ir = true ↔ r.HeldBy cw ir := by
  cases r with
  | cw fs => exact beq_iff_eq.trans (and_fieldsMask_eq_fieldsBits_iff hr.1 hr.2 cw)
  | ir fs => exact beq_iff_eq.trans (and_fieldsMask_eq_fieldsBits_iff hr.1 hr.2 ir)

/-- The fields that each row fixes: one field of R70 or R74 after another, an operand being the value of its field. -/
def rowFields (i : Instr) : RowFields :=
  match i with
  | .seqDispatch => .cw [.flag 34 true]
  | .seqJ j => .cw [.flag 34 false, ⟨32, 2, 0#2⟩, ⟨26, 6, j⟩]
  | .seqJOrReady j => .cw [.flag 34 false, ⟨32, 2, 1#2⟩, ⟨26, 6, j⟩]
  | .seqJOrBen j => .cw [.flag 34 false, ⟨32, 2, 2#2⟩, ⟨26, 6, j⟩]
  | .seqJOrIr11 j => .cw [.flag 34 false, ⟨32, 2, 3#2⟩, ⟨26, 6, j⟩]
  | .ldMar => .cw [.flag 25 true]
  | .ldMdrMem => .cw [.flag 24 true, .flag 3 true]
  | .ldMdrBusWord => .cw [.flag 24 true, .flag 3 false, .flag 1 true]
  | .ldMdrBusByte => .cw [.flag 24 true, .flag 3 false, .flag 1 false]
  | .ldIr => .cw [.flag 23 true]
  | .ldBen => .cw [.flag 22 true]
  | .ldReg => .cw [.flag 21 true]
  | .ldCc => .cw [.flag 20 true]
  | .ldPcPlus2 => .cw [.flag 19 true, ⟨12, 2, 0#2⟩]
  | .ldPcBus => .cw [.flag 19 true, ⟨12, 2, 1#2⟩]
  | .ldPcAddrSum => .cw [.flag 19 true, ⟨12, 2, 2#2⟩]
  | .ldPcReserved => .cw [.flag 19 true, ⟨12, 2, 3#2⟩]
  | .gateMarmux => .cw [.flag 15 true]
  | .gatePc => .cw [.flag 15 false, .flag 18 true]
  | .gateAlu => .cw [.flag 15 false, .flag 18 false, .flag 16 true]
  | .gateShf => .cw [.flag 15 false, .flag 18 false, .flag 16 false, .flag 14 true]
  | .gateMdr => .cw [.flag 15 false, .flag 18 false, .flag 16 false, .flag 14 false, .flag 17 true]
  | .busNone => .cw [.flag 15 false, .flag 18 false, .flag 16 false, .flag 14 false, .flag 17 false]
  | .drmuxIr11To9 => .cw [.flag 11 false]
  | .drmuxR7 => .cw [.flag 11 true]
  | .sr1muxIr11To9 => .cw [.flag 10 false]
  | .sr1muxIr8To6 => .cw [.flag 10 true]
  | .addr1muxPc => .cw [.flag 9 false]
  | .addr1muxSr1 => .cw [.flag 9 true]
  | .addr2muxZero => .cw [⟨7, 2, 0#2⟩]
  | .addr2muxOff6 => .cw [⟨7, 2, 1#2⟩]
  | .addr2muxOff9 => .cw [⟨7, 2, 2#2⟩]
  | .addr2muxOff11 => .cw [⟨7, 2, 3#2⟩]
  | .lshf1 => .cw [.flag 0 true]
  | .marmuxTrapvect => .cw [.flag 6 false]
  | .marmuxAddrSum => .cw [.flag 6 true]
  | .aluAdd => .cw [⟨4, 2, 0#2⟩]
  | .aluAnd => .cw [⟨4, 2, 1#2⟩]
  | .aluXor => .cw [⟨4, 2, 2#2⟩]
  | .aluPassa => .cw [⟨4, 2, 3#2⟩]
  | .mdrCandWord => .cw [.flag 1 true]
  | .mdrCandByte => .cw [.flag 1 false]
  | .memIdle => .cw [.flag 3 false]
  | .memRead => .cw [.flag 3 true, .flag 2 false]
  | .memWriteWord => .cw [.flag 3 true, .flag 2 true, .flag 1 true]
  | .memWriteByte => .cw [.flag 3 true, .flag 2 true, .flag 1 false]
  | .irDispatch opcode => .ir [⟨12, 4, opcode⟩]
  | .irCondBit11 ir11 => .ir [.flag 11 ir11]
  | .irBenNzp n z p => .ir [.flag 11 n, .flag 10 z, .flag 9 p]
  | .irSr2Reg sr2 => .ir [.flag 5 false, ⟨0, 3, sr2⟩]
  | .irSr2Imm5 imm5 => .ir [.flag 5 true, ⟨0, 5, imm5⟩]
  | .irShfLshf amount4 => .ir [.flag 4 false, ⟨0, 4, amount4⟩]
  | .irShfRshfl amount4 => .ir [.flag 4 true, .flag 5 false, ⟨0, 4, amount4⟩]
  | .irShfRshfa amount4 => .ir [.flag 4 true, .flag 5 true, ⟨0, 4, amount4⟩]

theorem rowFields_sound (i : Instr) : (rowFields i).Sound := by
  cases i <;> simp [rowFields, RowFields.Sound, BitField.Inside, BitField.Apart, BitField.flag]

/-- The table's mask and match of a row are those of its fields. -/
theorem pattern_eq_rowFields_pattern (i : Instr) : pattern i = (rowFields i).pattern := by
  cases i
  case seqJ | seqJOrReady | seqJOrBen | seqJOrIr11 =>
    simp [pattern, rowFields, RowFields.pattern, fieldsMask, fieldsBits, BitField.mask, BitField.bits, BitField.flag,
      placeJ]
  case irDispatch | irCondBit11 | irBenNzp | irSr2Reg | irSr2Imm5 | irShfLshf | irShfRshfl | irShfRshfa =>
    simp [pattern, rowFields, RowFields.pattern, fieldsMask, fieldsBits, BitField.mask, BitField.bits, BitField.flag,
      ← BitVec.or_assoc]
  all_goals rfl

/-- A word fits the mask and match of a row exactly when it holds the row's fields. -/
theorem pattern_fits_iff (i : Instr) (cw : ControlWord) (ir : Word) :
    (pattern i).fits cw ir = true ↔ (rowFields i).HeldBy cw ir := by
  rw [pattern_eq_rowFields_pattern]
  exact RowFields.fits_pattern_iff (rowFields_sound i) cw ir

/-! ### What a field decodes to, and the rows that fit (R83) -/

/-- A select of two bits has four values. -/
theorem twoBits_cases (m : BitVec 2) : m = 0#2 ∨ m = 1#2 ∨ m = 2#2 ∨ m = 3#2 := by
  revert m
  decide

/-- A field decodes to a row exactly when the words hold the fields that the row fixes. -/
theorem decodeSlot_eq_some_iff (i : Instr) (cw : ControlWord) (ir : Word) :
    decodeSlot (slotOf i) cw ir = some i ↔ (rowFields i).HeldBy cw ir := by
  cases i
  -- One load enable, or `LSHF1`: a row where the bit is 1, none where it is 0.
  case ldMar | ldIr | ldBen | ldReg | ldCc | lshf1 =>
    simp [slotOf, decodeSlot, rowFields, ldMarOf, cwLdMar, ldIrOf, cwLdIr, ldBenOf, cwLdBen, ldRegOf, cwLdReg, ldCcOf,
      cwLdCc, lshf1Of, cwLshf1]
  -- One select bit: a row for each value.
  case drmuxIr11To9 | drmuxR7 | sr1muxIr11To9 | sr1muxIr8To6 | addr1muxPc | addr1muxSr1 | marmuxTrapvect |
      marmuxAddrSum | mdrCandWord | mdrCandByte =>
    simp [slotOf, decodeSlot, rowFields, drOf, cwDrmux, sr1Of, cwSr1mux, addr1Of, cwAddr1mux, marmuxOf, cwMarmux,
      mdrCandOf, cwDataSize]
  -- Two select bits: a row for each of the four values.
  case addr2muxZero | addr2muxOff6 | addr2muxOff9 | addr2muxOff11 =>
    obtain h | h | h | h := twoBits_cases (cwAddr2mux cw) <;>
      simp_all [slotOf, decodeSlot, rowFields, addr2Of, cwAddr2mux]
  case aluAdd | aluAnd | aluXor | aluPassa =>
    obtain h | h | h | h := twoBits_cases (cwAluk cw) <;>
      simp_all [slotOf, decodeSlot, rowFields, aluOf, cwAluk]
  -- An enable bit over two select bits: `IRD` over `COND`, and `LD_PC` over `PCMUX`.
  case seqDispatch | seqJ | seqJOrReady | seqJOrBen | seqJOrIr11 =>
    cases h : cwIrd cw <;> obtain h' | h' | h' | h' := twoBits_cases (cwCond cw) <;>
      simp_all [slotOf, decodeSlot, rowFields, seqOf, cwIrd, cwCond, cwJ]
  case ldPcPlus2 | ldPcBus | ldPcAddrSum | ldPcReserved =>
    obtain h | h | h | h := twoBits_cases (cwPcmux cw) <;>
      simp_all [slotOf, decodeSlot, rowFields, ldPcOf, cwLdPc, cwPcmux]
  -- Bits tested one after another: the memory unit, the source of `MDR`, and the arbiter's priority.
  case memIdle | memRead | memWriteWord | memWriteByte =>
    simp only [slotOf, decodeSlot, rowFields, RowFields.cw_heldBy_iff, List.forall_mem_cons,
      BitField.flag_heldBy_iff, memOf, cwMioEn, cwRW, cwDataSize]
    grind
  case ldMdrMem | ldMdrBusWord | ldMdrBusByte =>
    simp only [slotOf, decodeSlot, rowFields, RowFields.cw_heldBy_iff, List.forall_mem_cons,
      BitField.flag_heldBy_iff, ldMdrOf, cwLdMdr, cwMioEn, cwDataSize]
    grind
  case gateMarmux | gatePc | gateAlu | gateShf | gateMdr | busNone =>
    simp only [slotOf, decodeSlot, rowFields, RowFields.cw_heldBy_iff, List.forall_mem_cons,
      BitField.flag_heldBy_iff, busOf, cwGateMarmux, cwGatePc, cwGateAlu, cwGateShf, cwGateMdr]
    grind
  -- The fields of `IR`, whose rows take their operands from it.
  case irDispatch | irCondBit11 | irBenNzp =>
    simp [slotOf, decodeSlot, rowFields, irDispatchOf, irOpcode, irCondOf, irBenOf, irBit11, irBit10, irBit9]
  case irSr2Reg | irSr2Imm5 =>
    cases h : irBit5 ir <;>
      simp_all [slotOf, decodeSlot, rowFields, irSr2Of, irBit5, irRegC, irImm5]
  case irShfLshf | irShfRshfl | irShfRshfa =>
    cases h : irBit4 ir <;> cases h' : irBit5 ir <;>
      simp_all [slotOf, decodeSlot, rowFields, irShfOf, irBit4, irBit5, irAmount4]

/-- A row fits the words exactly when its field decodes to it. -/
theorem fits_iff_decodeSlot (i : Instr) (cw : ControlWord) (ir : Word) :
    (pattern i).fits cw ir = true ↔ decodeSlot (slotOf i) cw ir = some i :=
  (pattern_fits_iff i cw ir).trans (decodeSlot_eq_some_iff i cw ir).symm

/-- A cycle decodes every field there is. -/
theorem mem_cycleSlots (k : Slot) : k ∈ sequencerSlots ++ .mem :: (driverSlots ++ commitSlots) := by
  cases k <;> decide

/-- A micro-operation belongs to a cycle exactly when its own field decodes to it. -/
theorem mem_microOps_iff (i : Instr) (cw : ControlWord) (ir : Word) :
    i ∈ microOps cw ir ↔ decodeSlot (slotOf i) cw ir = some i := by
  rw [microOps_eq_slotOps]
  exact ⟨fun h => (slotOf_mem_of_mem_slotOps h).2, fun h => List.mem_filterMap.2 ⟨slotOf i, mem_cycleSlots _, h⟩⟩

/-- A row fits its own encoding: the values of its fields lie under their mask. -/
theorem pattern_fits_encoding (i : Instr) : (pattern i).fits (encodeCw i) (encodeIr i) = true := by
  unfold encodeCw encodeIr
  rw [pattern_eq_rowFields_pattern]
  cases rowFields i with
  | cw fs => exact beq_iff_eq.2 (fieldsBits_and_fieldsMask fs)
  | ir fs => exact beq_iff_eq.2 (fieldsBits_and_fieldsMask fs)

/-- Settles O1: both sides say that the row's field decodes to the row. -/
theorem microOpsAreExactlyTheMatchingRows : Obligations.MicroOpsAreExactlyTheMatchingRows := by
  have hmatch (i : Instr) (cw : ControlWord) (ir : Word) : i ∈ microOps cw ir ↔ (pattern i).fits cw ir = true :=
    (mem_microOps_iff i cw ir).trans (fits_iff_decodeSlot i cw ir).symm
  exact ⟨hmatch, fun i => (hmatch i _ _).2 (pattern_fits_encoding i)⟩

/-- Settles O2: both rows are what their one field decodes to. -/
theorem rowsOfOneFieldExcludeEachOther : Obligations.RowsOfOneFieldExcludeEachOther := by
  intro i j cw ir hslot hi hj
  have hdi := (fits_iff_decodeSlot i cw ir).1 hi
  have hdj := (fits_iff_decodeSlot j cw ir).1 hj
  rw [hslot, hdj] at hdi
  exact (Option.some.inj hdi).symm

/-- Settles O3: the decoder evaluated on the written-out words. -/
theorem writtenOutWordsDecode : Obligations.WrittenOutWordsDecode := by
  unfold Obligations.WrittenOutWordsDecode
  decide

/-! ### Control-store text (R71, R243, R244) -/

/-- A character is a bit exactly when it is 0 or 1. -/
theorem rowBit_isSome_iff (c : Char) : (rowBit c).isSome = true ↔ c = '0' ∨ c = '1' := by
  unfold rowBit
  split
  · next h => simp [h]
  · next h =>
    split
    · next h' => simp [h']
    · next h' => simp [h, h']

/-- A character that is a bit is 1 exactly when it is the character 1. -/
theorem rowBit_some {c : Char} {b : Bool} (h : rowBit c = some b) : b = true ↔ c = '1' := by
  unfold rowBit at h
  split at h
  · next hc => simp [← Option.some.inj h, hc]
  · split at h
    · next hc => simp [← Option.some.inj h, hc]
    · exact nomatch h

/-- Reading one more bit. -/
theorem readBits_succ_cons {c : Char} {b : Bool} (hc : rowBit c = some b) (n : Nat) (rest : List Char) (acc : Nat) :
    readBits (n + 1) (c :: rest) acc = readBits n rest (2 * acc + b.toNat) := by
  simp [readBits, hc]

/-- A reading that succeeds read a bit first. -/
theorem readBits_succ_inv {n acc v : Nat} {text : List Char} (h : readBits (n + 1) text acc = some v) :
    ∃ c rest b, text = c :: rest ∧ rowBit c = some b ∧ readBits n rest (2 * acc + b.toNat) = some v := by
  cases text with
  | nil => exact nomatch h
  | cons c rest =>
    cases hc : rowBit c with
    | none => simp [readBits, hc] at h
    | some b => exact ⟨c, rest, b, rfl, hc, readBits_succ_cons hc n rest acc ▸ h⟩

/-- The first `n` characters are read exactly when there are as many and each is 0 or 1. -/
theorem readBits_isSome_iff (n : Nat) (text : List Char) (acc : Nat) :
    (readBits n text acc).isSome = true ↔ n ≤ text.length ∧ ∀ c ∈ text.take n, c = '0' ∨ c = '1' := by
  induction n generalizing text acc with
  | zero => simp [readBits]
  | succ n ih =>
    cases text with
    | nil => simp [readBits]
    | cons c rest =>
      rw [List.take_succ_cons, List.forall_mem_cons, ← rowBit_isSome_iff c]
      cases hc : rowBit c with
      | none => simp [readBits, hc]
      | some b =>
        rw [readBits_succ_cons hc, ih]
        simp

/-- Only the first `n` characters are looked at. -/
theorem readBits_take (n : Nat) (text : List Char) (acc : Nat) : readBits n (text.take n) acc = readBits n text acc := by
  induction n generalizing text acc with
  | zero => simp [readBits]
  | succ n ih =>
    cases text with
    | nil => rfl
    | cons c rest => simp only [List.take_succ_cons, readBits, ih]

/-- The bits read come below what was accumulated before. -/
theorem readBits_div {n acc v : Nat} {text : List Char} (h : readBits n text acc = some v) : v / 2 ^ n = acc := by
  induction n generalizing text acc with
  | zero => simpa [readBits] using h.symm
  | succ n ih =>
    obtain ⟨c, rest, b, -, -, hrest⟩ := readBits_succ_inv h
    have hb : b.toNat < 2 := b.toNat_lt
    rw [pow_succ, ← Nat.div_div_eq_div_mul, ih hrest]
    omega

/-- Character `i` is bit `n - 1 - i` of the number read. -/
theorem testBit_of_readBits {n acc v i : Nat} {text : List Char} (h : readBits n text acc = some v) (hi : i < n) :
    v.testBit (n - 1 - i) = true ↔ text[i]? = some '1' := by
  induction n generalizing text acc i with
  | zero => omega
  | succ n ih =>
    obtain ⟨c, rest, b, rfl, hc, hrest⟩ := readBits_succ_inv h
    cases i with
    | zero =>
      have hbit : v.testBit n = b := by
        rw [← Nat.zero_add n, ← Nat.testBit_div_two_pow, readBits_div hrest]
        cases b <;> simp [Nat.testBit_zero]
      simpa [hbit] using rowBit_some hc
    | succ i =>
      have hpos : n + 1 - 1 - (i + 1) = n - 1 - i := by omega
      rw [hpos, List.getElem?_cons_succ]
      exact ih hrest (by omega)

/-- A row is accepted exactly when its first 35 characters are each 0 or 1 (R71, R244). -/
theorem decodeRow_isSome_iff (text : List Char) :
    (decodeRow text).isSome = true ↔ 35 ≤ text.length ∧ ∀ c ∈ text.take 35, c = '0' ∨ c = '1' := by
  rw [decodeRow, Option.isSome_map, readBits_isSome_iff]

/-- Character `i` of a row is bit `34 - i` of its control word (R71). -/
theorem getLsbD_of_decodeRow {text : List Char} {cw : ControlWord} {i : Nat} (h : decodeRow text = some cw)
    (hi : i < 35) : cw.getLsbD (34 - i) = true ↔ text[i]? = some '1' := by
  obtain ⟨v, hv, rfl⟩ := Option.map_eq_some_iff.1 h
  have hin : 34 - i < 35 := by omega
  rw [BitVec.getLsbD_ofNat]
  simpa [hin] using testBit_of_readBits hv hi

/-- Rows that load are the lines decoded one by one. -/
theorem map_decodeRow_of_decodeRows {k : Nat} {lines : List (List Char)} {rows : List ControlWord}
    (h : decodeRows k lines = .ok rows) : lines.map decodeRow = rows.map some := by
  induction lines generalizing k rows with
  | nil => simp [← Except.ok.inj h]
  | cons text rest ih =>
    rw [decodeRows] at h
    split at h
    · exact nomatch h
    · exact nomatch h
    · next cw cws htext hrest => simp [← Except.ok.inj h, htext, ih hrest]

/-- A bad line is a fatal error, reported for it or for a bad line before it. -/
theorem decodeRows_malformed {k m : Nat} {lines : List (List Char)} {text : List Char} (hm : lines[m]? = some text)
    (hbad : decodeRow text = none) : ∃ j, decodeRows k lines = .error (.malformedRow j) ∧ j ≤ k + m := by
  induction lines generalizing k m with
  | nil => exact nomatch hm
  | cons first rest ih =>
    cases hfirst : decodeRow first with
    | none => exact ⟨k, by simp [decodeRows, hfirst], by omega⟩
    | some cw =>
      cases m with
      | zero =>
        obtain rfl : first = text := by simpa using hm
        simp [hbad] at hfirst
      | succ m =>
        obtain ⟨j, hj, hle⟩ := ih (k := k + 1) (m := m) (by simpa using hm)
        exact ⟨j, by simp [decodeRows, hfirst, hj], by omega⟩

/-- Lines that are all accepted load. -/
theorem decodeRows_completes (k : Nat) {lines : List (List Char)}
    (h : ∀ text ∈ lines, (decodeRow text).isSome = true) : ∃ rows, decodeRows k lines = .ok rows := by
  induction lines generalizing k with
  | nil => exact ⟨[], rfl⟩
  | cons text rest ih =>
    obtain ⟨hline, hrest⟩ := List.forall_mem_cons.1 h
    obtain ⟨cw, hcw⟩ := Option.isSome_iff_exists.1 hline
    obtain ⟨rows, hrows⟩ := ih (k + 1) hrest
    exact ⟨cw :: rows, by simp [decodeRows, hcw, hrows]⟩

/-- The rows of a loaded store are the first 64 lines decoded (R243). -/
theorem loadControlStore_ok_inv {lines : List (List Char)} {store : Vector ControlWord 64}
    (h : loadControlStore lines = .ok store) :
    ∃ rows : List ControlWord, (lines.take 64).map decodeRow = rows.map some ∧
      store = Vector.ofFn fun k => rows.getD k.val 0#35 := by
  unfold loadControlStore at h
  split at h
  · exact nomatch h
  · split at h
    · exact nomatch h
    · next rows hrows => exact ⟨rows, map_decodeRow_of_decodeRows hrows, (Except.ok.inj h).symm⟩

/-- Settles O5: row `k` is line `k` decoded. -/
theorem controlStoreLinesBecomeRows : Obligations.ControlStoreLinesBecomeRows := by
  intro lines store hload k hk text htext i hi
  obtain ⟨rows, hrows, rfl⟩ := loadControlStore_ok_inv hload
  have hrow : some (decodeRow text) = rows[k]?.map some := by
    rw [← List.getElem?_map, ← hrows, List.getElem?_map, List.getElem?_take_of_lt hk, htext, Option.map_some]
  obtain ⟨cw, hcw, hdec⟩ := Option.map_eq_some_iff.1 hrow.symm
  have hstore : (Vector.ofFn fun k : Fin 64 => rows.getD k.val 0#35)[k] = cw := by
    simp [List.getD_eq_getElem?_getD, hcw]
  rw [hstore]
  exact getLsbD_of_decodeRow hdec.symm hi

/-- Settles O4. -/
theorem controlStoreRowAcceptance : Obligations.ControlStoreRowAcceptance := by
  refine ⟨decodeRow_isSome_iff, fun text => ?_, fun lines hshort => ?_, fun lines k text hlen hk hline hbad => ?_,
    fun lines hlen hgood => ?_, fun lines k => ?_⟩
  · rw [decodeRow, decodeRow, readBits_take]
  · rw [loadControlStore, if_pos hshort]
  · have htake : (lines.take 64)[k]? = some text := by rwa [List.getElem?_take_of_lt hk]
    obtain ⟨j, hj, hle⟩ := decodeRows_malformed (k := 0) htake hbad
    exact ⟨j, by rw [loadControlStore, if_neg (by omega), hj], by omega⟩
  · obtain ⟨rows, hrows⟩ := decodeRows_completes 0 hgood
    exact ⟨_, by rw [loadControlStore, if_neg (by omega), hrows]⟩
  · rw [rowWarnings, List.mem_filter, List.mem_range, decide_eq_true_iff, List.getD_eq_getElem?_getD]
    cases hline : lines[k]? <;> simp

/-! ### Rows of the instruction register, and the ill-formed word (R77, R83, R194) -/

/-- Settles O18. -/
theorem everyWellFormedOpCompletes : Obligations.EveryWellFormedOpCompletes := by
  intro i s
  refine ⟨fun hi => exec_completes hi s, fun hi => ?_⟩
  cases i
  case ldPcReserved => exact ⟨_, rfl⟩
  all_goals exact nomatch hi

/-- The reserved row stops with the cycle abandoned (R194, R213). -/
theorem exec_ldPcReserved (s : State) :
    exec .ldPcReserved s =
      .fault (.illFormedControlWord s.cur.microinstruction s.cur.stateNumber s.abandonCycle) := rfl

/-- Settles O53. -/
theorem reservedPcSelectStops : Obligations.ReservedPcSelectStops :=
  fun s => ⟨s.abandonCycle, exec_ldPcReserved s, rfl, rfl, rfl, rfl, rfl, rfl⟩

/-- The dispatch target is the opcode (R101). -/
theorem toNat_dispatchTarget (opcode : BitVec 4) : (dispatchTarget opcode).toNat = opcode.toNat := by
  have hlt := opcode.isLt
  simp only [dispatchTarget, BitVec.truncate_eq_setWidth, BitVec.toNat_setWidth]
  omega

/-- The injected bit is OR-ed into `J` (R105). -/
theorem toNat_injectIr11 (j : MicroState) (ir11 : Bool) : (injectIr11 j ir11).toNat = j.toNat ||| ir11.toNat := by
  cases ir11 <;> simp [injectIr11]

/-- The row of IR_DISPATCH: a fetch where the word dispatches, nothing elsewhere (R101, log 2). -/
theorem exec_irDispatch (opcode : BitVec 4) (s : State) :
    exec (.irDispatch opcode) s = .next (if cwIrd s.controlWord then selectRow (dispatchTarget opcode) s else s) := rfl

/-- The row of IR_COND_BIT11: a fetch where the word injects `IR[11]`, nothing elsewhere (R105, log 2). -/
theorem exec_irCondBit11 (ir11 : Bool) (s : State) :
    exec (.irCondBit11 ir11) s = .next (if !(cwIrd s.controlWord) && cwCond s.controlWord == 3#2 then
      selectRow (injectIr11 (cwJ s.controlWord) ir11) s else s) := rfl

/-- The row of IR_BEN_NZP: a staged `BEN` where the word loads it, nothing elsewhere (R186, log 2). -/
theorem exec_irBenNzp (n z p : Bool) (s : State) :
    exec (.irBenNzp n z p) s = .next (if cwLdBen s.controlWord then
      stageBen (branchEnable n z p s.cur.n s.cur.z s.cur.p) s else s) := rfl

/-- Settles O40. -/
theorem instructionRegisterRows : Obligations.InstructionRegisterRows := by
  intro s opcode ir11 n z p
  rw [exec_irDispatch, exec_irCondBit11, exec_irBenNzp, State.controlWord]
  refine ⟨fun hird => ⟨_, by rw [if_pos hird]; rfl, toNat_dispatchTarget opcode⟩, fun hird => by simp [hird],
    fun hird hcond => ⟨_, by simp only [hird, hcond]; rfl, toNat_injectIr11 _ _⟩, ?_,
    fun hld => by rw [if_pos hld]; rfl, fun hld => by simp [hld]⟩
  rintro (hird | hcond)
  · simp [hird]
  · simp [hcond]

/-- A row that starts or continues an access leaves the counter cleared by a transfer, else counted on (R120, R127). -/
theorem exec_access_memCounter {i : Instr} {s t : State} (hi : i ∈ [Instr.memRead, .memWriteWord, .memWriteByte])
    (h : exec i s = .next t) : t.memCounter = if s.cur.ready then 0 else s.memCounter + 1 := by
  simp only [List.mem_cons, List.not_mem_nil, or_false] at hi
  obtain rfl | rfl | rfl := hi <;>
  · obtain rfl := Host.Outcome.next.inj h
    split <;> rfl

/-- The memory row of a control word leaves the counter of the cycle in one piece (R128). -/
theorem exec_memOf_memCounter {cw : ControlWord} {s t : State} (h : exec (memOf cw) s = .next t) :
    t.memCounter = wholeCounter cw s.cur s.memCounter := by
  cases hmio : cwMioEn cw with
  | false =>
    rw [memOf, hmio] at h
    obtain rfl := Host.Outcome.next.inj h
    simp [wholeCounter, hmio]
  | true =>
    have haccess : memOf cw ∈ [Instr.memRead, .memWriteWord, .memWriteByte] := by
      rw [memOf, hmio]
      grind
    rw [exec_access_memCounter haccess h, wholeCounter, if_pos hmio]

/-- A cycle cut short after its memory unit has the memory and the counter of the cycle in one piece. -/
theorem runOps_memory_unit {ks : List Slot} {cw : ControlWord} {ir : Word} {s t : State} (hks : .mem ∉ ks)
    (h : runOps (slotOps (sequencerSlots ++ .mem :: ks) cw ir) s = .next t) :
    t.mem = wholeMem cw s.cur s.mem ∧ t.memCounter = wholeCounter cw s.cur s.memCounter := by
  rw [slotOps_append] at h
  obtain ⟨u, hu, h⟩ := runOps_append_inv h
  obtain ⟨v, hv, ht⟩ := runOps_cons_inv (i := memOf cw) h
  have hcur := (runOps_frame hu).cur
  have hbefore := runOps_memoryFrame hu (by decide)
  have hafter := runOps_memoryFrame ht hks
  exact ⟨by rw [hafter.mem, exec_memOf_mem hv, hcur, hbefore.mem],
    by rw [hafter.memCounter, exec_memOf_memCounter hv, hcur, hbefore.memCounter]⟩

/-- Fields other than the `PC` load ask for well-formed micro-operations only (R77). -/
theorem wellFormed_of_mem_slotOps {ks : List Slot} {cw : ControlWord} {ir : Word} {i : Instr} (hks : .ldPc ∉ ks)
    (h : i ∈ slotOps ks cw ir) : i.wellFormed = true := by
  cases i
  case ldPcReserved => exact absurd (slotOf_mem_of_mem_slotOps h).1 hks
  all_goals rfl

/-- The fields of a cycle after the memory unit's and before the `PC` load, in unit order. -/
def slotsBeforePc : List Slot := driverSlots ++ [.ldMar, .ldIr, .ldMdr, .ldBen, .irBen, .ldReg]

/-- A cycle of an ill-formed control word runs up to its `PC` load and faults there: the state it reached keeps the
frame of every micro-operation, and has the memory and the counter of the cycle in one piece (R194, R213). -/
theorem runCycle_of_illFormed {s : State} (hcw : cwIllFormed s.controlWord = true) :
    ∃ t, OpFrame s t ∧ t.mem = wholeMem s.controlWord s.cur s.mem ∧
      t.memCounter = wholeCounter s.controlWord s.cur s.memCounter ∧
      runCycle s = .fault (.illFormedControlWord s.cur.microinstruction s.cur.stateNumber t.abandonCycle) := by
  obtain ⟨t, ht⟩ := runOps_completes (xs := slotOps (sequencerSlots ++ .mem :: slotsBeforePc) s.controlWord s.cur.ir)
    (fun _ => wellFormed_of_mem_slotOps (by decide)) s.beginCycle
  have hframe := runOps_frame ht
  obtain ⟨hmem, hcounter⟩ := runOps_memory_unit (by decide) ht
  have hrow : decodeSlot .ldPc s.controlWord s.cur.ir = some .ldPcReserved := (ldPcOf_eq_reserved_iff _).2 hcw
  have hslots : sequencerSlots ++ .mem :: (driverSlots ++ commitSlots) =
      (sequencerSlots ++ .mem :: slotsBeforePc) ++ [.ldPc, .ldCc] := rfl
  have hops : runOps (microOps s.controlWord s.cur.ir) s.beginCycle =
      .fault (.illFormedControlWord s.cur.microinstruction s.cur.stateNumber t.abandonCycle) := by
    rw [microOps_eq_slotOps, hslots, slotOps_append, runOps_append_next ht, slotOps_cons, hrow]
    rw [← State.beginCycle_cur s, ← hframe.cur]
    exact runOps_cons_fault _ (exec_ldPcReserved t)
  exact ⟨t, ⟨hframe.cur, hframe.controlStore, hframe.memCycles, hframe.cycleCount, hframe.lastBus, hframe.halted⟩, hmem,
    hcounter, by rw [runCycle, hops]⟩

/-- Settles O15: what the memory unit did is that of the cycle in one piece, for each kind of access. -/
theorem illFormedWordFaultsAndMemoryWritesStand : Obligations.IllFormedWordFaultsAndMemoryWritesStand := by
  intro s ⟨hh, hp⟩ hld hmux
  have hcw : cwIllFormed s.controlWord = true := by simp [cwIllFormed, State.controlWord, hld, hmux]
  obtain ⟨t, hframe, hmem, hcounter, hfault⟩ := runCycle_of_illFormed hcw
  refine ⟨t.abandonCycle, by rw [step_running hh hp, hfault], hframe.cur, hframe.cur, hframe.lastBus, hframe.cycleCount,
    hframe.controlStore, hframe.halted.trans hh, hframe.memCycles, ?_⟩
  rw [State.abandonCycle_mem, State.abandonCycle_memCounter, hmem, hcounter, State.controlWord]
  refine ⟨fun hmio => ⟨wholeMem_of_no_write _ (by simp [hmio]), by simp [wholeCounter, hmio]⟩,
    fun hmio hr => ⟨wholeMem_of_no_write _ (by simp [hr]), by simp [wholeCounter, hmio, hr]⟩, fun hmio hr => ?_⟩
  exact ⟨by simp [wholeCounter, hmio, hr], fun hrw => wholeMem_of_no_write _ (by simp [hrw]),
    fun hrw hsize => wholeMem_word _ (by simp [hmio, hr, hrw]) hsize,
    fun hrw hsize => wholeMem_byte _ (by simp [hmio, hr, hrw]) hsize⟩

end Sys2Proof.Machine
end

section
/-! SUPPORT. The micro-sequencer and the whole cycle: what each field's row does in terms of the cycle in one piece, the
refinement that follows, and what it says of the next state. The statements of 40_sequencer.md. -/

namespace Sys2Proof.Machine

/-! ### Running a unit's rows one after another -/

/-- A micro-operation that answers a next state, and the rest from there. -/
theorem runOps_cons_of_next {i : Instr} {rest : List Instr} {s t : State} {o : Host.Outcome State Fault Refusal}
    (h : exec i s = .next t) (hrest : runOps rest t = o) : runOps (i :: rest) s = o :=
  (runOps_cons_next rest h).trans hrest

/-- A list that completes, and the next list from there. -/
theorem runOps_append_of_next {xs ys : List Instr} {s t : State} {o : Host.Outcome State Fault Refusal}
    (h : runOps xs s = .next t) (hys : runOps ys t = o) : runOps (xs ++ ys) s = o :=
  (runOps_append_next h).trans hys

/-! ### The next-address mux (R101 to R106) -/

/-- `IRD = 1` dispatches on the opcode (R101). -/
theorem wholeNextState_dispatch {cw : ControlWord} (l : Latches) (hird : cwIrd cw = true) :
    wholeNextState cw l = dispatchTarget (irOpcode l.ir) := by
  simp only [wholeNextState, hird, if_true]
  rfl

/-- `COND = 00` takes `J` itself (R106). -/
theorem wholeNextState_j {cw : ControlWord} (l : Latches) (hird : cwIrd cw = false) (hcond : cwCond cw = 0#2) :
    wholeNextState cw l = cwJ cw := by
  simp [wholeNextState, hird, hcond]

/-- `COND = 01` injects `READY` into bit 1 (R103). -/
theorem wholeNextState_ready {cw : ControlWord} (l : Latches) (hird : cwIrd cw = false) (hcond : cwCond cw = 1#2) :
    wholeNextState cw l = injectReady (cwJ cw) l.ready := by
  cases hr : l.ready <;> simp [wholeNextState, hird, hcond, hr, injectReady]

/-- `COND = 10` injects `BEN` into bit 2 (R104). -/
theorem wholeNextState_ben {cw : ControlWord} (l : Latches) (hird : cwIrd cw = false) (hcond : cwCond cw = 2#2) :
    wholeNextState cw l = injectBen (cwJ cw) l.ben := by
  cases hb : l.ben <;> simp [wholeNextState, hird, hcond, hb, injectBen]

/-- `COND = 11` injects `IR[11]` into bit 0 (R105). -/
theorem wholeNextState_ir11 {cw : ControlWord} (l : Latches) (hird : cwIrd cw = false) (hcond : cwCond cw = 3#2) :
    wholeNextState cw l = injectIr11 (cwJ cw) (irBit11 l.ir) := by
  unfold wholeNextState
  rw [← irBit11]
  cases irBit11 l.ir <;> simp [hird, hcond, injectIr11]

/-! Each of the five next-address rows is the fetch of one row of the control store (R101 to R108). -/

theorem exec_seqDispatch (s : State) :
    exec .seqDispatch s = .next (selectRow (dispatchTarget (irOpcode s.cur.ir)) s) := rfl
theorem exec_seqJ (j : MicroState) (s : State) : exec (.seqJ j) s = .next (selectRow j s) := rfl
theorem exec_seqJOrReady (j : MicroState) (s : State) :
    exec (.seqJOrReady j) s = .next (selectRow (injectReady j s.cur.ready) s) := rfl
theorem exec_seqJOrBen (j : MicroState) (s : State) :
    exec (.seqJOrBen j) s = .next (selectRow (injectBen j s.cur.ben) s) := rfl
theorem exec_seqJOrIr11 (j : MicroState) (s : State) :
    exec (.seqJOrIr11 j) s = .next (selectRow (injectIr11 j (irBit11 s.cur.ir)) s) := rfl

/-- The next-address row of a control word fetches the row that R102 names. -/
theorem exec_seqOf (cw : ControlWord) (s : State) :
    exec (seqOf cw) s = .next (selectRow (wholeNextState cw s.cur) s) := by
  cases hird : cwIrd cw with
  | true => simp [seqOf, hird, exec_seqDispatch, wholeNextState_dispatch]
  | false =>
    obtain h | h | h | h := twoBits_cases (cwCond cw)
    · simp [seqOf, hird, h, exec_seqJ, wholeNextState_j]
    · simp [seqOf, hird, h, exec_seqJOrReady, wholeNextState_ready]
    · simp [seqOf, hird, h, exec_seqJOrBen, wholeNextState_ben]
    · simp [seqOf, hird, h, exec_seqJOrIr11, wholeNextState_ir11]

/-- After the next-address row, the dispatch index in `IR` fetches the same row again or does nothing (log 2). -/
theorem exec_irDispatchOf (s : State) :
    exec (irDispatchOf s.cur.ir) (selectRow (wholeNextState s.controlWord s.cur) s) =
      .next (selectRow (wholeNextState s.controlWord s.cur) s) := by
  rw [irDispatchOf, exec_irDispatch]
  split
  · next hird =>
    rw [wholeNextState_dispatch (cw := s.controlWord) s.cur hird]
    rfl
  · rfl

/-- So does the condition bit in `IR` (log 2). -/
theorem exec_irCondOf (s : State) :
    exec (irCondOf s.cur.ir) (selectRow (wholeNextState s.controlWord s.cur) s) =
      .next (selectRow (wholeNextState s.controlWord s.cur) s) := by
  rw [irCondOf, exec_irCondBit11]
  split
  · next h =>
    obtain ⟨hird, hcond⟩ : cwIrd s.controlWord = false ∧ cwCond s.controlWord = 3#2 := by
      simpa [State.controlWord] using h
    rw [wholeNextState_ir11 s.cur hird hcond]
    rfl
  · rfl

/-- The first-source row of a control word (R109, R110). -/
theorem exec_sr1Of (cw : ControlWord) (s : State) :
    exec (sr1Of cw) s = .next (selectSr1 (if cwSr1mux cw then irRegB s.cur.ir else irRegA s.cur.ir) s) := by
  unfold sr1Of
  split <;> rfl

/-- The state that unit 1 leaves: the next row fetched, and `SR1_VAL` read. -/
def afterSequencer (s : State) : State :=
  selectSr1 (if cwSr1mux s.controlWord then irRegB s.cur.ir else irRegA s.cur.ir)
    (selectRow (wholeNextState s.controlWord s.cur) s)

/-- Unit 1 (R199). -/
theorem runOps_sequencerOps (s : State) :
    runOps (sequencerOps s.controlWord s.cur.ir) s = .next (afterSequencer s) :=
  runOps_cons_of_next (exec_seqOf _ s) (runOps_cons_of_next (exec_irDispatchOf s)
    (runOps_cons_of_next (exec_irCondOf s) (runOps_cons_of_next (exec_sr1Of _ _) rfl)))

/-! ### The memory unit (R120 to R128) -/

/-- The state that unit 2 leaves, from the cycle in one piece. -/
def afterMemory (cw : ControlWord) (s : State) : State :=
  { s with
    mem := wholeMem cw s.cur s.mem
    memCounter := wholeCounter cw s.cur s.memCounter
    nxt := { s.nxt with ready := wholeReady cw s.cur s.memCounter s.memCycles }
    nets := { s.nets with
      memDone := wholeTransfers cw s.cur
      memRdata := if wholeTransfers cw s.cur && !cwRW cw then some (memReadWord s.mem s.cur.mar) else none } }

/-- A row that accesses memory counts where `READY` is clear (R120, R121). -/
theorem exec_memOf_counting {cw : ControlWord} {s : State} (hmio : cwMioEn cw = true) (hr : s.cur.ready = false) :
    exec (memOf cw) s = .next (countAccess (beginMemory s)) := by
  rw [memOf, if_pos hmio]
  split
  · split <;> simp [exec, execMemWriteWord, execMemWriteByte, hr]
  · simp [exec, execMemRead, hr]

/-- A row that accesses memory transfers and ends the access where `READY` is set (R122 to R127). -/
theorem exec_memOf_transfer {cw : ControlWord} {s : State} (hmio : cwMioEn cw = true) (hr : s.cur.ready = true) :
    exec (memOf cw) s = .next (endAccess (((countAccess (beginMemory s)).withNets { s.nets with
      memDone := false, memRdata := if cwRW cw then none else some (memReadWord s.mem s.cur.mar) }).withMem
        (wholeMem cw s.cur s.mem))) := by
  cases hrw : cwRW cw with
  | false =>
    rw [memOf, if_pos hmio, hrw, wholeMem_of_no_write _ (by simp [hrw])]
    simp only [Bool.false_eq_true, if_false, exec, execMemRead, hr, if_true]
    rfl
  | true =>
    have hwrite : (cwMioEn cw && s.cur.ready && cwRW cw) = true := by simp [hmio, hr, hrw]
    cases hsize : cwDataSize cw with
    | false =>
      rw [memOf, if_pos hmio, hrw, hsize, wholeMem_byte _ hwrite hsize]
      simp only [Bool.false_eq_true, if_false, exec, execMemWriteByte, hr, if_true]
      rfl
    | true =>
      rw [memOf, if_pos hmio, hrw, hsize, wholeMem_word _ hwrite hsize]
      simp only [exec, execMemWriteWord, hr, if_true]
      rfl

/-- Unit 2, where the staged `READY` is still the current one. -/
theorem exec_memOf {cw : ControlWord} {s : State} (hready : s.nxt.ready = s.cur.ready) :
    exec (memOf cw) s = .next (afterMemory cw s) := by
  cases hmio : cwMioEn cw with
  | false =>
    have hidle : exec (memOf cw) s = .next (beginMemory s) := by
      rw [memOf, hmio]
      rfl
    rw [hidle]
    simp [afterMemory, beginMemory, State.withNets, wholeMem, wholeTransfers, wholeCounter, wholeReady, hmio,
      ← hready]
  | true =>
    cases hr : s.cur.ready with
    | false =>
      rw [exec_memOf_counting hmio hr]
      simp [afterMemory, countAccess, beginMemory, State.withNets, State.withNxt, State.withMemCounter, wholeMem,
        wholeTransfers, wholeCounter, wholeReady, hmio, hr, hready]
    | true =>
      rw [exec_memOf_transfer hmio hr]
      cases hrw : cwRW cw <;>
        simp [afterMemory, endAccess, countAccess, State.withNets, State.withNxt, State.withMem,
          State.withMemCounter, beginMemory, wholeTransfers, wholeCounter, wholeReady, hmio, hr, hrw]

/-! ### The bus-driver evaluator and the arbiter (R140 to R171) -/

/-- The memory-data candidate (R140, R141). -/
theorem exec_mdrCandOf (cw : ControlWord) (s : State) :
    exec (mdrCandOf cw) s = .next (s.withNets { s.nets with mdrCand := wholeMdrCand cw s.cur }) := by
  unfold mdrCandOf wholeMdrCand
  split <;> rfl

/-- The first adder input (R142). -/
def wholeAddr1 (cw : ControlWord) (l : Latches) : Word := if cwAddr1mux cw then wholeSr1 cw l else l.pc

theorem exec_addr1Of {cw : ControlWord} {s : State} (hsr1 : s.nets.sr1Val = wholeSr1 cw s.cur) :
    exec (addr1Of cw) s = .next (s.withNets { s.nets with addr1Out := wholeAddr1 cw s.cur }) := by
  unfold addr1Of wholeAddr1
  rw [← hsr1]
  split <;> rfl

/-- The second adder input before the shift (R143). -/
def offsetOf (cw : ControlWord) (l : Latches) : Word :=
  if cwAddr2mux cw = 0#2 then 0#16
  else if cwAddr2mux cw = 1#2 then off6Value l.ir
  else if cwAddr2mux cw = 2#2 then off9Value l.ir
  else off11Value l.ir

theorem exec_addr2Of (cw : ControlWord) (s : State) :
    exec (addr2Of cw) s = .next (s.withNets { s.nets with addr2Out := offsetOf cw s.cur }) := by
  unfold addr2Of offsetOf
  split
  · rfl
  · split
    · rfl
    · split <;> rfl

/-- The shift acts on the second adder input where `LSHF1` is 1 (R144). -/
theorem runOps_lshf1Of (cw : ControlWord) (s : State) :
    runOps (lshf1Of cw).toList s = .next (s.withNets { s.nets with
      addr2Out := if cwLshf1 cw then shiftAddr2 s.nets.addr2Out else s.nets.addr2Out }) := by
  unfold lshf1Of
  split <;> rfl

/-- The `MAR` mux (R146). -/
theorem exec_marmuxOf {cw : ControlWord} {s : State} (hsum : s.nets.addrSum = wholeAddrSum cw s.cur) :
    exec (marmuxOf cw) s = .next (s.withNets { s.nets with marmuxOut := wholeMarmux cw s.cur }) := by
  unfold marmuxOf wholeMarmux
  rw [← hsum]
  split <;> rfl

/-- The second operand of the ALU (R150). -/
theorem exec_irSr2Of {l : Latches} {s : State} (hl : s.cur = l) :
    exec (irSr2Of l.ir) s = .next (s.withNets { s.nets with sr2Out := wholeSr2 l }) := by
  subst hl
  unfold irSr2Of wholeSr2
  split <;> rfl

/-- The ALU (R151 to R154). -/
theorem exec_aluOf {cw : ControlWord} {s : State} (hsr1 : s.nets.sr1Val = wholeSr1 cw s.cur)
    (hsr2 : s.nets.sr2Out = wholeSr2 s.cur) :
    exec (aluOf cw) s = .next (s.withNets { s.nets with aluOut := wholeAlu cw s.cur }) := by
  unfold aluOf wholeAlu
  rw [← hsr1, ← hsr2]
  split
  · rfl
  · split
    · rfl
    · split <;> rfl

/-- The shifter (R156 to R158). -/
theorem exec_irShfOf {cw : ControlWord} {l : Latches} {s : State} (hsr1 : s.nets.sr1Val = wholeSr1 cw l) :
    exec (irShfOf l.ir) s = .next (s.withNets { s.nets with shfOut := wholeShf cw l }) := by
  unfold wholeShf
  rw [← hsr1]
  cases h4 : irBit4 l.ir with
  | false =>
    rw [irShfOf, h4]
    rfl
  | true =>
    cases h5 : irBit5 l.ir <;>
    · rw [irShfOf, h4, h5]
      rfl

/-- The destination register (R160). -/
theorem exec_drOf (cw : ControlWord) (s : State) :
    exec (drOf cw) s = .next (s.withNets { s.nets with drIdx := wholeDr cw s.cur }) := by
  unfold drOf wholeDr
  split <;> rfl

/-- The nets that the evaluator drives, over those of the units before it. -/
def wholeNets (cw : ControlWord) (l : Latches) (w : Nets) : Nets :=
  { w with
    mdrCand := wholeMdrCand cw l
    addr1Out := wholeAddr1 cw l
    addr2Out := wholeAddr2 cw l
    marmuxOut := wholeMarmux cw l
    sr2Out := wholeSr2 l
    aluOut := wholeAlu cw l
    shfOut := wholeShf cw l
    drIdx := wholeDr cw l }

/-- The second adder input, shifted where `LSHF1` is 1 (R143, R144). -/
theorem runOps_addr2Rows (cw : ControlWord) (s : State) : runOps (addr2Of cw :: (lshf1Of cw).toList) s =
    .next (s.withNets { s.nets with addr2Out := wholeAddr2 cw s.cur }) :=
  runOps_cons_of_next (exec_addr2Of cw s) (runOps_lshf1Of cw _)

/-- The rows of the memory-data candidate and the adder inputs (R140 to R144). -/
theorem runOps_adderRows {cw : ControlWord} {s : State} (hsr1 : s.nets.sr1Val = wholeSr1 cw s.cur) :
    runOps ([mdrCandOf cw, addr1Of cw, addr2Of cw] ++ (lshf1Of cw).toList) s = .next (s.withNets { s.nets with
      mdrCand := wholeMdrCand cw s.cur, addr1Out := wholeAddr1 cw s.cur, addr2Out := wholeAddr2 cw s.cur }) :=
  runOps_cons_of_next (exec_mdrCandOf cw s) (runOps_cons_of_next (exec_addr1Of hsr1) (runOps_addr2Rows cw _))

/-- The rows of the ALU, the shifter and the destination register (R150 to R160). -/
theorem runOps_aluRows {cw : ControlWord} {l : Latches} {s : State} (hl : s.cur = l)
    (hsr1 : s.nets.sr1Val = wholeSr1 cw l) :
    runOps [irSr2Of l.ir, aluOf cw, irShfOf l.ir, drOf cw] s = .next (s.withNets { s.nets with
      sr2Out := wholeSr2 l, aluOut := wholeAlu cw l, shfOut := wholeShf cw l, drIdx := wholeDr cw l }) := by
  subst hl
  have halu : runOps [irSr2Of s.cur.ir, aluOf cw] s =
      .next (s.withNets { s.nets with sr2Out := wholeSr2 s.cur, aluOut := wholeAlu cw s.cur }) :=
    runOps_cons_of_next (exec_irSr2Of rfl) (runOps_cons_of_next (exec_aluOf hsr1 rfl) rfl)
  exact runOps_append_of_next halu (runOps_cons_of_next (exec_irShfOf hsr1) (runOps_cons_of_next (exec_drOf cw _) rfl))

/-- Unit 3, where unit 1 has read `SR1_VAL`. -/
theorem runOps_evaluatorOps {cw : ControlWord} {s : State} (hsr1 : s.nets.sr1Val = wholeSr1 cw s.cur) :
    runOps (evaluatorOps cw s.cur.ir) s = .next (s.withNets (wholeNets cw s.cur s.nets)) :=
  runOps_append_of_next (runOps_adderRows hsr1) (runOps_cons_of_next (exec_marmuxOf rfl) (runOps_aluRows rfl hsr1))

/-- Unit 4: the bus carries the first asserted gate's candidate (R170, R171). -/
theorem exec_busOf {cw : ControlWord} {s : State} {w : Nets} (hnets : s.nets = wholeNets cw s.cur w) :
    exec (busOf cw) s = .next (driveBus (wholeBus cw s.cur) s) := by
  have hmarmux : s.nets.marmuxOut = wholeMarmux cw s.cur := by rw [hnets]; rfl
  have halu : s.nets.aluOut = wholeAlu cw s.cur := by rw [hnets]; rfl
  have hshf : s.nets.shfOut = wholeShf cw s.cur := by rw [hnets]; rfl
  have hmdr : s.nets.mdrCand = wholeMdrCand cw s.cur := by rw [hnets]; rfl
  unfold busOf wholeBus
  rw [← hmarmux, ← halu, ← hshf, ← hmdr]
  repeat' split
  all_goals rfl

/-! ### The latch commit (R180 to R197) -/

/-- The nets as the latch commit finds them, in a cycle that began with the latches `l` and the memory `m`. -/
structure NetsSettled (cw : ControlWord) (l : Latches) (m : Memory) (w : Nets) : Prop where
  bus : w.bus = wholeBus cw l
  addrSum : w.addrSum = wholeAddrSum cw l
  drIdx : w.drIdx = wholeDr cw l
  memDone : w.memDone = wholeTransfers cw l
  memRdata : w.memRdata = if wholeTransfers cw l && !cwRW cw then some (memReadWord m l.mar) else none

/-- The latches that unit 5 loads, over the staged latches of the units before it. -/
def wholeLoads (cw : ControlWord) (l : Latches) (m : Memory) (x : Latches) : Latches :=
  { x with
    pc := wholePc cw l
    ir := if cwLdIr cw then wholeBus cw l else x.ir
    mar := if cwLdMar cw then wholeBus cw l else x.mar
    mdr := wholeMdr cw l m
    n := if cwLdCc cw then decide ((wholeBus cw l).toInt < 0) else x.n
    z := if cwLdCc cw then decide ((wholeBus cw l).toInt = 0) else x.z
    p := if cwLdCc cw then decide (0 < (wholeBus cw l).toInt) else x.p
    ben := if cwLdBen cw then l.branchEnabled else x.ben
    regs := if cwLdReg cw then regWrite x.regs (wholeDr cw l) (wholeBus cw l) else x.regs }

/-- The flags are those of the sign of the bus (R195). -/
theorem flags_eq_sign (bus : Word) :
    flagN bus = decide (bus.toInt < 0) ∧ flagZ bus = decide (bus.toInt = 0) ∧
      flagP bus = decide (0 < bus.toInt) := by
  have hzero : flagZ bus = decide (bus.toInt = 0) := by
    rw [flagZ, Bool.beq_eq_decide_eq]
    exact decide_eq_decide.2 (BitVec.toInt_inj (y := 0#16)).symm
  have hsign : bus.getLsbD 15 = decide (bus.toInt < 0) :=
    (BitVec.msb_eq_getLsbD_last bus).symm.trans BitVec.msb_eq_toInt
  refine ⟨?_, hzero, ?_⟩
  · rw [flagN, hzero, hsign]
    grind
  · rw [flagP, hzero, hsign]
    grind

section Rows
variable {cw : ControlWord} {l : Latches} {m : Memory} {s : State}

/-- `LD_MAR` (R180). -/
theorem runOps_ldMarOf (hw : NetsSettled cw l m s.nets) : runOps (ldMarOf cw).toList s =
    .next (s.withNxt { s.nxt with mar := if cwLdMar cw then wholeBus cw l else s.nxt.mar }) := by
  unfold ldMarOf
  rw [← hw.bus]
  split <;> rfl

/-- `LD_IR` (R181). -/
theorem runOps_ldIrOf (hw : NetsSettled cw l m s.nets) : runOps (ldIrOf cw).toList s =
    .next (s.withNxt { s.nxt with ir := if cwLdIr cw then wholeBus cw l else s.nxt.ir }) := by
  unfold ldIrOf
  rw [← hw.bus]
  split <;> rfl

/-- Without `LD_MDR`, in a wait cycle and beside a write `MDR` stays (R183, R196). -/
theorem wholeMdr_hold (m : Memory)
    (h : cwLdMdr cw = false ∨ cwMioEn cw = true ∧ (wholeTransfers cw l && !cwRW cw) = false) :
    wholeMdr cw l m = l.mdr := by
  obtain h | ⟨hmio, h⟩ := h
  · simp [wholeMdr, h]
  · rw [wholeTransfers, hmio, Bool.true_and] at h
    simp [wholeMdr, hmio, h]

/-- A completing read with `LD_MDR` takes the word at `MAR` (R183). -/
theorem wholeMdr_read (m : Memory) (hld : cwLdMdr cw = true) (h : (wholeTransfers cw l && !cwRW cw) = true) :
    wholeMdr cw l m = memReadWord m l.mar := by
  obtain ⟨⟨hmio, hr⟩, hrw⟩ : (cwMioEn cw = true ∧ l.ready = true) ∧ cwRW cw = false := by
    simpa [wholeTransfers] using h
  simp [wholeMdr, hld, hmio, hr, hrw]

/-- With `MIO_EN = 0`, `LD_MDR` takes the bus, in byte mode as R184 and R185 say. -/
theorem wholeMdr_bus (m : Memory) (hld : cwLdMdr cw = true) (hmio : cwMioEn cw = false) :
    wholeMdr cw l m = if cwDataSize cw then wholeBus cw l else byteBusData l.mar (wholeBus cw l) := by
  cases hsize : cwDataSize cw <;> simp [wholeMdr, hld, hmio, hsize, byteBusData, duplicateLow, lowByte]

/-- The row of a load of `MDR` from memory (R183). -/
theorem exec_ldMdrMem (hl : s.cur = l) (hcw : l.microinstruction = cw) (hw : NetsSettled cw l m s.nets)
    (hld : cwLdMdr cw = true) (hmio : cwMioEn cw = true) (hmdr : s.nxt.mdr = l.mdr) :
    exec .ldMdrMem s = .next (s.withNxt { s.nxt with mdr := wholeMdr cw l m }) := by
  have hrow : exec .ldMdrMem s = .next (if s.nets.memDone && !cwRW cw then
      match s.nets.memRdata with | some v => stageMdr v s | none => s else s) := by
    subst hl hcw
    rfl
  rw [hrow, hw.memDone, hw.memRdata]
  cases hread : wholeTransfers cw l && !cwRW cw with
  | false =>
    rw [wholeMdr_hold m (.inr ⟨hmio, hread⟩), ← hmdr]
    rfl
  | true =>
    rw [wholeMdr_read m hld hread]
    rfl

/-- `LD_MDR` and its source select (R182 to R185). -/
theorem runOps_ldMdrOf (hl : s.cur = l) (hcw : l.microinstruction = cw) (hw : NetsSettled cw l m s.nets)
    (hmdr : s.nxt.mdr = l.mdr) :
    runOps (ldMdrOf cw).toList s = .next (s.withNxt { s.nxt with mdr := wholeMdr cw l m }) := by
  cases hld : cwLdMdr cw with
  | false =>
    rw [ldMdrOf, hld, wholeMdr_hold m (.inl hld), ← hmdr]
    rfl
  | true =>
    cases hmio : cwMioEn cw with
    | true =>
      rw [ldMdrOf, hld, hmio]
      exact runOps_cons_of_next (exec_ldMdrMem hl hcw hw hld hmio hmdr) rfl
    | false =>
      rw [wholeMdr_bus m hld hmio, ldMdrOf, hld, hmio, ← hw.bus, ← hl]
      cases cwDataSize cw <;> rfl

/-- The reserved row is not decoded: `LD_PC` takes one of its three sources (R190 to R193). -/
theorem runOps_ldPcOf (hl : s.cur = l) (hw : NetsSettled cw l m s.nets) (hwf : cwIllFormed cw = false)
    (hpc : s.nxt.pc = l.pc) :
    runOps (ldPcOf cw).toList s = .next (s.withNxt { s.nxt with pc := wholePc cw l }) := by
  cases hld : cwLdPc cw with
  | false =>
    rw [ldPcOf, hld, wholePc, hld, ← hpc]
    rfl
  | true =>
    obtain h | h | h | h := twoBits_cases (cwPcmux cw)
    · rw [ldPcOf, hld, wholePc, hld, h, ← hl]
      rfl
    · rw [ldPcOf, hld, wholePc, hld, h, ← hw.bus]
      rfl
    · rw [ldPcOf, hld, wholePc, hld, h, ← hw.addrSum]
      rfl
    · simp [cwIllFormed, hld, h] at hwf

/-- `LD_BEN` (R186). -/
theorem runOps_ldBenOf (hl : s.cur = l) : runOps (ldBenOf cw).toList s =
    .next (s.withNxt { s.nxt with ben := if cwLdBen cw then l.branchEnabled else s.nxt.ben }) := by
  subst hl
  unfold ldBenOf
  split <;> rfl

/-- The `BEN` terms in `IR` have the effect of `LD_BEN` (R186, log 2). -/
theorem exec_irBenOf (hl : s.cur = l) (hcw : l.microinstruction = cw) : exec (irBenOf l.ir) s =
    .next (s.withNxt { s.nxt with ben := if cwLdBen cw then l.branchEnabled else s.nxt.ben }) := by
  subst hl hcw
  rw [irBenOf, exec_irBenNzp, State.controlWord]
  split <;> rfl

/-- Both `BEN` rows of a cycle together. -/
theorem runOps_benRows (hl : s.cur = l) (hcw : l.microinstruction = cw) :
    runOps ((ldBenOf cw).toList ++ [irBenOf l.ir]) s =
      .next (s.withNxt { s.nxt with ben := if cwLdBen cw then l.branchEnabled else s.nxt.ben }) := by
  refine runOps_append_of_next (runOps_ldBenOf hl) (runOps_cons_of_next (exec_irBenOf hl hcw) ?_)
  split <;> rfl

/-- `LD_REG` (R189). -/
theorem runOps_ldRegOf (hw : NetsSettled cw l m s.nets) : runOps (ldRegOf cw).toList s =
    .next (s.withNxt { s.nxt with
      regs := if cwLdReg cw then regWrite s.nxt.regs (wholeDr cw l) (wholeBus cw l) else s.nxt.regs }) := by
  unfold ldRegOf
  rw [← hw.bus, ← hw.drIdx]
  split <;> rfl

/-- `LD_CC` (R195). -/
theorem runOps_ldCcOf (hw : NetsSettled cw l m s.nets) : runOps (ldCcOf cw).toList s =
    .next (s.withNxt { s.nxt with
      n := if cwLdCc cw then decide ((wholeBus cw l).toInt < 0) else s.nxt.n
      z := if cwLdCc cw then decide ((wholeBus cw l).toInt = 0) else s.nxt.z
      p := if cwLdCc cw then decide (0 < (wholeBus cw l).toInt) else s.nxt.p }) := by
  obtain ⟨hn, hz, hp⟩ := flags_eq_sign s.nets.bus
  unfold ldCcOf
  rw [← hw.bus, ← hn, ← hz, ← hp]
  split <;> rfl

/-- Unit 5 of a control word that is not ill-formed. -/
theorem runOps_commitOps (hl : s.cur = l) (hcw : l.microinstruction = cw) (hw : NetsSettled cw l m s.nets)
    (hwf : cwIllFormed cw = false) (hmdr : s.nxt.mdr = l.mdr) (hpc : s.nxt.pc = l.pc) :
    runOps (commitOps cw l.ir) s = .next (s.withNxt (wholeLoads cw l m s.nxt)) := by
  have hfirst : runOps ((ldMarOf cw).toList ++ (ldIrOf cw).toList ++ (ldMdrOf cw).toList) s =
      .next (s.withNxt { s.nxt with
        mar := if cwLdMar cw then wholeBus cw l else s.nxt.mar
        ir := if cwLdIr cw then wholeBus cw l else s.nxt.ir
        mdr := wholeMdr cw l m }) :=
    runOps_append_of_next (runOps_append_of_next (runOps_ldMarOf hw) (runOps_ldIrOf hw)) (runOps_ldMdrOf hl hcw hw hmdr)
  rw [commitOps, List.append_assoc _ (ldBenOf cw).toList]
  exact runOps_append_of_next (runOps_append_of_next (runOps_append_of_next (runOps_append_of_next hfirst
    (runOps_benRows hl hcw)) (runOps_ldRegOf hw)) (runOps_ldPcOf hl hw hwf hpc)) (runOps_ldCcOf hw)

end Rows

/-! ### The cycle in one piece (R201) -/

/-- The state that the cycle in one piece answers where the control word is not ill-formed. -/
def wholeNext (s : State) : State :=
  { s with
    cur := wholeLatches s
    nxt := wholeLatches s
    nets := Nets.idle
    mem := wholeMem s.cur.microinstruction s.cur s.mem
    memCounter := wholeCounter s.cur.microinstruction s.cur s.memCounter
    lastBus := wholeBus s.cur.microinstruction s.cur
    cycleCount := s.cycleCount + 1 }

@[simp] theorem wholeLatches_pc (s : State) : (wholeLatches s).pc = wholePc s.cur.microinstruction s.cur := rfl
@[simp] theorem wholeLatches_mar (s : State) : (wholeLatches s).mar =
    if cwLdMar s.cur.microinstruction then wholeBus s.cur.microinstruction s.cur else s.cur.mar := rfl
@[simp] theorem wholeLatches_mdr (s : State) :
    (wholeLatches s).mdr = wholeMdr s.cur.microinstruction s.cur s.mem := rfl
@[simp] theorem wholeLatches_ready (s : State) :
    (wholeLatches s).ready = wholeReady s.cur.microinstruction s.cur s.memCounter s.memCycles := rfl
@[simp] theorem wholeLatches_regs (s : State) : (wholeLatches s).regs = if cwLdReg s.cur.microinstruction then
    regWrite s.cur.regs (wholeDr s.cur.microinstruction s.cur) (wholeBus s.cur.microinstruction s.cur)
      else s.cur.regs := rfl
@[simp] theorem wholeLatches_stateNumber (s : State) :
    (wholeLatches s).stateNumber = wholeNextState s.cur.microinstruction s.cur := rfl

@[simp] theorem wholeNext_cur (s : State) : (wholeNext s).cur = wholeLatches s := rfl
@[simp] theorem wholeNext_controlStore (s : State) : (wholeNext s).controlStore = s.controlStore := rfl
@[simp] theorem wholeNext_mem (s : State) : (wholeNext s).mem = wholeMem s.cur.microinstruction s.cur s.mem := rfl
@[simp] theorem wholeNext_memCounter (s : State) :
    (wholeNext s).memCounter = wholeCounter s.cur.microinstruction s.cur s.memCounter := rfl
@[simp] theorem wholeNext_cycleCount (s : State) : (wholeNext s).cycleCount = s.cycleCount + 1 := rfl
@[simp] theorem wholeNext_halted (s : State) : (wholeNext s).halted = s.halted := rfl
@[simp] theorem wholeNext_memCycles (s : State) : (wholeNext s).memCycles = s.memCycles := rfl

/-- The state that the cycle in one piece leaves where the control word is ill-formed (R213). -/
def wholeLeft (s : State) : State :=
  { s with
    nxt := s.cur
    nets := Nets.idle
    mem := wholeMem s.cur.microinstruction s.cur s.mem
    memCounter := wholeCounter s.cur.microinstruction s.cur s.memCounter }

theorem wholeCycle_of_wellFormed {s : State} (h : cwIllFormed s.cur.microinstruction = false) :
    wholeCycle s = .next (wholeNext s) := by
  simp only [wholeCycle, h, Bool.false_eq_true, if_false]
  rfl

theorem wholeCycle_of_illFormed {s : State} (h : cwIllFormed s.cur.microinstruction = true) :
    wholeCycle s = .fault (.illFormedControlWord s.cur.microinstruction s.cur.stateNumber (wholeLeft s)) := by
  simp only [wholeCycle, h, if_true]
  rfl

/-- The state that unit 4 leaves of a cycle that begins at `s`: the nets are driven, nothing is loaded. -/
def afterArbiter (s : State) : State :=
  let u := afterMemory s.controlWord (afterSequencer s.beginCycle)
  driveBus (wholeBus s.controlWord s.cur) (u.withNets (wholeNets s.controlWord s.cur u.nets))

/-- Units 1 to 4 (R199). -/
theorem runOps_to_arbiter (s : State) :
    runOps (sequencerOps s.controlWord s.cur.ir ++ memoryOps s.controlWord ++ evaluatorOps s.controlWord s.cur.ir ++
      arbiterOps s.controlWord) s.beginCycle = .next (afterArbiter s) :=
  runOps_append_of_next (runOps_append_of_next (runOps_append_of_next (runOps_sequencerOps s.beginCycle)
    (runOps_cons_of_next (exec_memOf rfl) rfl)) (runOps_evaluatorOps rfl)) (runOps_cons_of_next (exec_busOf rfl) rfl)

theorem afterArbiter_netsSettled (s : State) : NetsSettled s.controlWord s.cur s.mem (afterArbiter s).nets :=
  ⟨rfl, rfl, rfl, rfl, rfl⟩

/-- The loads of unit 5 make the latches of the cycle in one piece. -/
theorem wholeLoads_afterArbiter (s : State) :
    wholeLoads s.controlWord s.cur s.mem (afterArbiter s).nxt = wholeLatches s := rfl

/-- Units 1 to 4 settle the nets for the latch commit, and the swap ends the cycle (R200). -/
theorem runCycle_of_wellFormed {s : State} (hcw : cwIllFormed s.controlWord = false) :
    runCycle s = .next (wholeNext s) := by
  have hops : runOps (microOps s.controlWord s.cur.ir) s.beginCycle =
      .next ((afterArbiter s).withNxt (wholeLoads s.controlWord s.cur s.mem (afterArbiter s).nxt)) :=
    runOps_append_of_next (runOps_to_arbiter s)
      (runOps_commitOps rfl rfl (afterArbiter_netsSettled s) hcw rfl rfl)
  rw [runCycle, hops, wholeLoads_afterArbiter]
  rfl

/-- The model's cycle is the cycle in one piece. That covers `MDR` in the wait cycles of a read, which the model holds
(log 12) and of which the statement below says nothing (U3). -/
theorem runCycle_eq_wholeCycle (s : State) : runCycle s = wholeCycle s := by
  cases hcw : cwIllFormed s.cur.microinstruction with
  | false => rw [wholeCycle_of_wellFormed hcw, runCycle_of_wellFormed hcw]
  | true =>
    obtain ⟨t, ⟨hcur, hstore, hlat, hcount, hbus, hhalted⟩, hmem, hcounter, hfault⟩ := runCycle_of_illFormed hcw
    have hleft : t.abandonCycle = wholeLeft s := by
      simp only [State.abandonCycle, State.withNxt, State.withNets, hcur, hstore, hlat, hcount, hbus, hhalted, hmem,
        hcounter]
      rfl
    rw [wholeCycle_of_illFormed hcw, hfault, hleft]

/-- What a step is: a refusal, the halt test, or the cycle in one piece (R216, R248). -/
theorem step_trichotomy (s : State) :
    (s.halted = true ∧ step s = .refused .alreadyHalted) ∨ (s.halted = false ∧ step s = .next s.halt) ∨
      (Running s ∧ step s = wholeCycle s) := by
  cases hh : s.halted with
  | true => exact .inl ⟨rfl, step_of_halted hh⟩
  | false =>
    by_cases hp : s.cur.pc = 0#16
    · exact .inr (.inl ⟨rfl, step_at_zero hh hp⟩)
    · exact .inr (.inr ⟨⟨hh, hp⟩, (step_running hh hp).trans (runCycle_eq_wholeCycle s)⟩)

/-- A running machine steps by the cycle in one piece. -/
theorem step_eq_wholeCycle {s : State} (hrun : Running s) : step s = wholeCycle s :=
  (step_running hrun.1 hrun.2).trans (runCycle_eq_wholeCycle s)

/-- The next state of a running machine. -/
theorem step_next_eq_wholeNext {s t : State} (hrun : Running s) (h : step s = .next t) : t = wholeNext s := by
  rw [step_eq_wholeCycle hrun] at h
  cases hcw : cwIllFormed s.cur.microinstruction with
  | false =>
    rw [wholeCycle_of_wellFormed hcw] at h
    exact (Host.Outcome.next.inj h).symm
  | true =>
    rw [wholeCycle_of_illFormed hcw] at h
    exact nomatch h

/-- Settles O7: the two are equal outright, so they agree also in what is left of a state without `MDR`. -/
theorem stepIsTheCycleInOnePiece : Obligations.StepIsTheCycleInOnePiece := by
  intro s hrun
  rw [step_eq_wholeCycle hrun]
  exact ⟨fun _ => rfl, fun _ => ⟨fun t ht => ⟨t, ht, rfl⟩, fun u hu => ⟨u, hu, rfl⟩, fun _ => Iff.rfl⟩⟩

/-- Settles O16: only the cycle of an ill-formed control word faults, and only a halted machine refuses. -/
theorem onlyTheIllFormedWordFaults : Obligations.OnlyTheIllFormedWordFaults := by
  intro s
  obtain ⟨hh, hstep⟩ | ⟨-, hstep⟩ | ⟨hrun, hstep⟩ := step_trichotomy s
  · rw [hstep]
    exact ⟨fun _ h => (nomatch h), fun _ h => ⟨hh, (Host.Outcome.refused.inj h).symm⟩⟩
  · rw [hstep]
    exact ⟨fun _ h => (nomatch h), fun _ h => (nomatch h)⟩
  · cases hcw : cwIllFormed s.cur.microinstruction with
    | false =>
      rw [hstep, wholeCycle_of_wellFormed hcw]
      exact ⟨fun _ h => (nomatch h), fun _ h => (nomatch h)⟩
    | true =>
      rw [hstep, wholeCycle_of_illFormed hcw]
      exact ⟨fun _ h => ⟨hrun, rfl, wholeLeft s, (Host.Outcome.fault.inj h).symm⟩, fun _ h => (nomatch h)⟩

/-! ### The values of the next-address mux (R101 to R105) -/

/-- The opcode is the top four bits of `IR` (R74). -/
theorem toNat_irOpcode (ir : Word) : (irOpcode ir).toNat = ir.toNat / 4096 := by
  have hlt : ir.toNat < 65536 := ir.isLt
  simp only [irOpcode, BitVec.extractLsb'_toNat, Nat.shiftRight_eq_div_pow]
  omega

/-- Bit 1 of `J` is forced where `READY` is set (R103). -/
theorem injectReady_eq_ite (j : MicroState) (ready : Bool) :
    injectReady j ready = if ready then j ||| 0b000010#6 else j := by
  cases ready <;> simp [injectReady]

/-- Bit 2 of `J` is forced where `BEN` is set (R104). -/
theorem injectBen_eq_ite (j : MicroState) (ben : Bool) : injectBen j ben = if ben then j ||| 0b000100#6 else j := by
  cases ben <;> simp [injectBen]

/-- Bit 0 of `J` is forced where `IR[11]` is set (R105). -/
theorem injectIr11_eq_ite (j : MicroState) (ir11 : Bool) :
    injectIr11 j ir11 = if ir11 then j ||| 0b000001#6 else j := by
  cases ir11 <;> simp [injectIr11]

theorem toNat_injectReady (j : MicroState) (ready : Bool) :
    (injectReady j ready).toNat = j.toNat ||| (2 * ready.toNat) := by
  cases ready <;> simp [injectReady]

theorem toNat_injectBen (j : MicroState) (ben : Bool) :
    (injectBen j ben).toNat = j.toNat ||| (4 * ben.toNat) := by
  cases ben <;> simp [injectBen]

/-- `IR[11]` as a number. -/
theorem toNat_irBit11 (ir : Word) : (irBit11 ir).toNat = ir.toNat / 2048 % 2 := Nat.toNat_testBit ir.toNat 11

/-- Settles O21: the next state of each selection, read off from the cycle in one piece. -/
theorem nextAddressTruthTable : Obligations.NextAddressTruthTable := by
  intro s t hrun h
  obtain rfl := step_next_eq_wholeNext hrun h
  rw [wholeNext_cur, wholeLatches_stateNumber]
  refine ⟨fun hird => ?_, fun hird hcond => ?_, fun hird hcond => ?_, fun hird hcond => ?_, fun hird hcond => ?_, rfl⟩
  · rw [wholeNextState_dispatch s.cur hird, toNat_dispatchTarget, toNat_irOpcode]
  · exact wholeNextState_j s.cur hird hcond
  · rw [wholeNextState_ready s.cur hird hcond, injectReady_eq_ite]
  · rw [wholeNextState_ben s.cur hird hcond, injectBen_eq_ite]
  · rw [wholeNextState_ir11 s.cur hird hcond, injectIr11_eq_ite]
    rfl

/-- Settles O39: each row is the fetch of one row, whose number is that of R101 to R106. -/
theorem nextAddressRows : Obligations.NextAddressRows := by
  intro s j
  refine ⟨⟨_, exec_seqDispatch s, ?_⟩, exec_seqJ j s, ⟨_, exec_seqJOrReady j s, toNat_injectReady j _⟩,
    ⟨_, exec_seqJOrBen j s, toNat_injectBen j _⟩, ⟨_, exec_seqJOrIr11 j s, ?_⟩⟩
  · rw [toNat_dispatchTarget, toNat_irOpcode]
  · rw [toNat_injectIr11, toNat_irBit11]

/-! ### The first-source register (R109, R110) -/

/-- Register field A is `IR[11:9]` (R74). -/
theorem toNat_irRegA (ir : Word) : (irRegA ir).toNat = ir.toNat / 512 % 8 := by
  simp [irRegA, BitVec.extractLsb'_toNat, Nat.shiftRight_eq_div_pow]

/-- Register field B is `IR[8:6]` (R74). -/
theorem toNat_irRegB (ir : Word) : (irRegB ir).toNat = ir.toNat / 64 % 8 := by
  simp [irRegB, BitVec.extractLsb'_toNat, Nat.shiftRight_eq_div_pow]

theorem exec_sr1muxIr11To9 (s : State) : exec .sr1muxIr11To9 s = .next (selectSr1 (irRegA s.cur.ir) s) := rfl
theorem exec_sr1muxIr8To6 (s : State) : exec .sr1muxIr8To6 s = .next (selectSr1 (irRegB s.cur.ir) s) := rfl

/-- Settles O41. -/
theorem firstSourceRows : Obligations.FirstSourceRows := fun s =>
  ⟨⟨_, exec_sr1muxIr11To9 s, toNat_irRegA _⟩, ⟨_, exec_sr1muxIr8To6 s, toNat_irRegB _⟩⟩

/-- With `ADDR2MUX = 00` the second adder input is 0, shifted or not (R143, R144). -/
theorem wholeAddr2_zero {cw : ControlWord} (l : Latches) (h : cwAddr2mux cw = 0#2) : wholeAddr2 cw l = 0#16 := by
  simp [wholeAddr2, h]

/-- Settles O27: `PC` and the bus are those of the latches the cycle began with. -/
theorem linkAndJumpUseOldValues : Obligations.LinkAndJumpUseOldValues := by
  intro s t hrun h hmarmux hgate hldReg hdr hldPc hpcmux haddr1 haddr2
  obtain rfl := step_next_eq_wholeNext hrun h
  have hsum : wholeAddrSum s.cur.microinstruction s.cur = wholeSr1 s.cur.microinstruction s.cur := by
    rw [wholeAddrSum, if_pos haddr1, wholeAddr2_zero s.cur haddr2, BitVec.add_zero]
  have hbus : wholeBus s.cur.microinstruction s.cur = s.cur.pc := by simp [wholeBus, hmarmux, hgate]
  have hregs : (wholeNext s).cur.regs = regWrite s.cur.regs 7#3 s.cur.pc := by
    simp [hldReg, wholeDr, hdr, hbus]
  constructor
  · rw [wholeNext_cur, wholeLatches_pc, wholePc, if_pos hldPc, hpcmux]
    exact hsum
  · rw [hregs, regRead_regWrite_same]

/-! ### A wait row that holds itself (R103, R129) -/

/-- The row of a state that waits for memory and holds itself until `READY` (R103). -/
structure HoldsItself (cw : ControlWord) (k : MicroState) : Prop where
  ird : cwIrd cw = false
  cond : cwCond cw = 1#2
  j : cwJ cw = k
  mioEn : cwMioEn cw = true
  ldPc : cwLdPc cw = false

/-- A state `k` wait cycles after `s`. -/
structure WaitedFor (k : Nat) (s t : State) : Prop where
  inv : BoundaryInv t
  running : Running t
  stateNumber : t.cur.stateNumber = s.cur.stateNumber
  controlStore : t.controlStore = s.controlStore
  memCycles : t.memCycles = s.memCycles
  mem : t.mem = s.mem
  memCounter : t.memCounter = s.memCounter + k
  cycleCount : t.cycleCount = s.cycleCount + k
  mar : cwLdMar s.cur.microinstruction = false → t.cur.mar = s.cur.mar

theorem WaitedFor.zero {s : State} (hs : BoundaryInv s) (hrun : Running s) : WaitedFor 0 s s :=
  ⟨hs, hrun, rfl, rfl, rfl, rfl, rfl, rfl, fun _ => rfl⟩

/-- The row that waits is the active control word throughout (R41). -/
theorem WaitedFor.microinstruction {k : Nat} {s t : State} (hs : BoundaryInv s) (h : WaitedFor k s t) :
    t.cur.microinstruction = s.cur.microinstruction := by
  rw [h.inv.fetched, hs.fetched]
  simp only [h.controlStore, h.stateNumber]

/-- Waiting on adds up. -/
theorem WaitedFor.succ {k : Nat} {s t u : State} (hs : BoundaryInv s) (h : WaitedFor k s t) (h' : WaitedFor 1 t u) :
    WaitedFor (k + 1) s u where
  inv := h'.inv
  running := h'.running
  stateNumber := h'.stateNumber.trans h.stateNumber
  controlStore := h'.controlStore.trans h.controlStore
  memCycles := h'.memCycles.trans h.memCycles
  mem := h'.mem.trans h.mem
  memCounter := by rw [h'.memCounter, h.memCounter, Nat.add_assoc]
  cycleCount := by rw [h'.cycleCount, h.cycleCount, Nat.add_assoc]
  mar := fun hld => (h'.mar (by rwa [h.microinstruction hs])).trans (h.mar hld)

/-- A wait row is not ill-formed, so its cycle completes (R77). -/
theorem HoldsItself.step_eq {s : State} (hrow : HoldsItself s.cur.microinstruction s.cur.stateNumber)
    (hrun : Running s) : step s = .next (wholeNext s) := by
  have hcw : cwIllFormed s.cur.microinstruction = false := by simp [cwIllFormed, hrow.ldPc]
  rw [step_eq_wholeCycle hrun, wholeCycle_of_wellFormed hcw]

/-- The next state of a wait row: its own where `READY` is clear, with bit 1 set where it is set (R103). -/
theorem HoldsItself.wholeNextState_eq {cw : ControlWord} {k : MicroState} (hrow : HoldsItself cw k) (l : Latches) :
    wholeNextState cw l = if l.ready then k ||| 2#6 else k := by
  rw [wholeNextState_ready l hrow.ird hrow.cond, hrow.j, injectReady_eq_ite]

/-- Without `LD_PC` the cycle keeps `PC`, and a running machine runs on. -/
theorem HoldsItself.running_wholeNext {s : State} (hrow : HoldsItself s.cur.microinstruction s.cur.stateNumber)
    (hrun : Running s) : Running (wholeNext s) := by
  have hpc : (wholeNext s).cur.pc = s.cur.pc := by simp [wholePc, hrow.ldPc]
  exact ⟨hrun.1, hpc ▸ hrun.2⟩

/-- One cycle of a wait row before `READY`: the row holds itself and the counter counts (R120, R129). -/
theorem HoldsItself.waits {s : State} (hrow : HoldsItself s.cur.microinstruction s.cur.stateNumber)
    (hs : BoundaryInv s) (hrun : Running s) (hr : s.cur.ready = false) : WaitedFor 1 s (wholeNext s) where
  inv := everyStepKeepsTheBoundaryInvariant s _ hs (hrow.step_eq hrun)
  running := hrow.running_wholeNext hrun
  stateNumber := by simp [hrow.wholeNextState_eq, hr]
  controlStore := rfl
  memCycles := rfl
  mem := wholeMem_of_no_write _ (by simp [hr])
  memCounter := by simp [wholeCounter, hrow.mioEn, hr]
  cycleCount := rfl
  mar := fun hld => by simp [hld]

/-- A fresh access waits as long as its counter is short of the latency, by induction on the cycles gone. -/
theorem HoldsItself.run_waits {s : State} (hrow : HoldsItself s.cur.microinstruction s.cur.stateNumber)
    (hs : BoundaryInv s) (hrun : Running s) {k : Nat} (hk : s.memCounter + k < s.memCycles) :
    ∃ t : State, Sys2Proof.core.run k s = Host.Outcome.next t ∧ WaitedFor k s t := by
  induction k with
  | zero => exact ⟨s, run_zero s, .zero hs hrun⟩
  | succ k ih =>
    obtain ⟨t, ht, hwait⟩ := ih (by omega)
    have hrow' : HoldsItself t.cur.microinstruction t.cur.stateNumber := by
      rwa [hwait.microinstruction hs, hwait.stateNumber]
    have hr : t.cur.ready = false := by
      rw [hwait.inv.ready, hwait.memCounter, hwait.memCycles, beq_eq_false_iff_ne]
      omega
    exact ⟨wholeNext t, run_snoc ht (hrow'.step_eq hwait.running),
      hwait.succ hs (hrow'.waits hwait.inv hwait.running hr)⟩

/-- The last cycle of a wait row: the row exits to `J OR 2`, and the access ends (R103, R122, R127). -/
theorem HoldsItself.exits {s : State} (hrow : HoldsItself s.cur.microinstruction s.cur.stateNumber)
    (hr : s.cur.ready = true) :
    (wholeNext s).cur.stateNumber = s.cur.stateNumber ||| 2#6 ∧ (wholeNext s).memCounter = 0 ∧
      (wholeNext s).cur.ready = false :=
  ⟨by simp [hrow.wholeNextState_eq, hr], by simp [wholeCounter, hrow.mioEn, hr],
    by simp [wholeReady, hrow.mioEn, hr]⟩

/-- Settles O36: `MEM_CYCLES - 1` wait cycles by induction, and the transfer in the cycle after them. -/
theorem accessTakesMemCyclesCycles : Obligations.AccessTakesMemCyclesCycles := by
  intro s hs hrun hfresh hird hcond hj _ hmio hldPc
  have hrow : HoldsItself s.cur.microinstruction s.cur.stateNumber := ⟨hird, hcond, hj, hmio, hldPc⟩
  refine ⟨fun k hk => ?_, ?_⟩
  · obtain ⟨t, ht, hwait⟩ := hrow.run_waits hs hrun (k := k) (by omega)
    exact ⟨t, ht, hwait.stateNumber, by rw [hwait.memCounter, hfresh, Nat.zero_add], hwait.mem⟩
  · have hlat := hs.latency
    obtain ⟨t, ht, hwait⟩ := hrow.run_waits hs hrun (k := s.memCycles - 1) (by omega)
    have hcw := hwait.microinstruction hs
    have hrow' : HoldsItself t.cur.microinstruction t.cur.stateNumber := by rwa [hcw, hwait.stateNumber]
    have hr : t.cur.ready = true := by
      rw [hwait.inv.ready, hwait.memCounter, hwait.memCycles, hfresh, Nat.zero_add, beq_self_eq_true]
    have hlast := run_snoc ht (hrow'.step_eq hwait.running)
    rw [Nat.sub_add_cancel (by omega)] at hlast
    obtain ⟨hnext, hcounter, hready⟩ := hrow'.exits hr
    refine ⟨wholeNext t, hlast, hwait.stateNumber ▸ hnext, hcounter, hready, ?_, fun hrw => ⟨?_, fun hld hldMar => ?_⟩⟩
    · rw [wholeNext_cycleCount, hwait.cycleCount]
      omega
    · rw [wholeNext_mem, wholeMem_of_no_write _ (by simp [hcw, hrw]), hwait.mem]
    · have hread : (wholeTransfers t.cur.microinstruction t.cur && !cwRW t.cur.microinstruction) = true := by
        simp [wholeTransfers, hcw, hmio, hr, hrw]
      rw [wholeNext_cur, wholeLatches_mdr, wholeMdr_read t.mem (by rwa [hcw]) hread, hwait.mem, hwait.mar hldMar]

end Sys2Proof.Machine
end

section
/-! SUPPORT. The memory timing unit row by row and through its cycles, what a cycle does not load, and the byte-store
protocol: the statements of 41_memory_unit.md. -/

namespace Sys2Proof.Machine

/-! ### The rows of the memory unit (R120 to R128) -/

/-- An access row counts where `READY` is clear (R120, R121). -/
theorem exec_access_counting {i : Instr} {s : State} (hi : i ∈ [Instr.memRead, .memWriteWord, .memWriteByte])
    (hr : s.cur.ready = false) : exec i s = .next (countAccess (beginMemory s)) := by
  simp only [List.mem_cons, List.not_mem_nil, or_false] at hi
  obtain rfl | rfl | rfl := hi
  · simp [exec, execMemRead, hr]
  · simp [exec, execMemWriteWord, hr]
  · simp [exec, execMemWriteByte, hr]

/-- Settles O42: the access rows count alike, and the last wait cycle stages `READY` besides. -/
theorem memoryRowsWhileCounting : Obligations.MemoryRowsWhileCounting := by
  intro s i
  refine ⟨rfl, fun hi hr => ⟨fun hlast => ?_, fun hshort => ?_⟩⟩
  · rw [exec_access_counting hi hr, countAccess_last (beginMemory s) hlast]
    rfl
  · rw [exec_access_counting hi hr, countAccess_not_last (beginMemory s) hshort]
    rfl

theorem exec_memRead_transfer {s : State} (hr : s.cur.ready = true) :
    exec .memRead s = .next (transferRead (countAccess (beginMemory s))) := by
  simp [exec, execMemRead, hr]

theorem exec_memWriteWord_transfer {s : State} (hr : s.cur.ready = true) :
    exec .memWriteWord s = .next (transferWriteWord (countAccess (beginMemory s))) := by
  simp [exec, execMemWriteWord, hr]

theorem exec_memWriteByte_transfer {s : State} (hr : s.cur.ready = true) :
    exec .memWriteByte s = .next (transferWriteByte (countAccess (beginMemory s))) := by
  simp [exec, execMemWriteByte, hr]

/-- Settles O43: a transfer counts and ends the access, so what is left to say are the bytes of R124 to R126. -/
theorem memoryRowsInATransfer : Obligations.MemoryRowsInATransfer := by
  intro s hr hwf
  refine ⟨⟨_, exec_memRead_transfer hr, toNat_memReadWord s.mem s.cur.mar⟩,
    ⟨_, exec_memWriteWord_transfer hr, memWriteWord_wf _ _ _ hwf, ?_, ?_, ?_⟩,
    ⟨_, exec_memWriteByte_transfer hr, memWriteByte_wf _ _ _ hwf, ?_, ?_⟩⟩
  · exact (congrArg BitVec.toNat (read_memWriteWord_low _ _ _ hwf)).trans (toNat_lowByte _)
  · exact (congrArg BitVec.toNat (read_memWriteWord_high _ _ _ hwf)).trans (toNat_highByte _)
  · exact fun k hlow hhigh => read_memWriteWord_other _ _ _ hlow hhigh
  · exact (congrArg BitVec.toNat (byteWriteKeepsTheOtherByte _ _ _ hwf).1).trans (toNat_storeByte _ _)
  · exact (byteWriteKeepsTheOtherByte _ _ _ hwf).2

/-! ### The latency counter and `READY` through a cycle (R120, R121, R127) -/

section Timer
variable {cw : ControlWord} {l : Latches}

theorem wholeCounter_idle (hmio : cwMioEn cw = false) (k : Nat) : wholeCounter cw l k = k := by
  simp [wholeCounter, hmio]

theorem wholeReady_idle (hmio : cwMioEn cw = false) (k memCycles : Nat) : wholeReady cw l k memCycles = l.ready := by
  simp [wholeReady, hmio]

theorem wholeCounter_counting (hmio : cwMioEn cw = true) (hr : l.ready = false) (k : Nat) :
    wholeCounter cw l k = k + 1 := by
  simp [wholeCounter, hmio, hr]

theorem wholeReady_counting (hmio : cwMioEn cw = true) (hr : l.ready = false) (k memCycles : Nat) :
    wholeReady cw l k memCycles = (k + 1 == memCycles - 1) := by
  simp [wholeReady, hmio, hr]

theorem wholeCounter_transfer (hmio : cwMioEn cw = true) (hr : l.ready = true) (k : Nat) : wholeCounter cw l k = 0 := by
  simp [wholeCounter, hmio, hr]

theorem wholeReady_transfer (hmio : cwMioEn cw = true) (hr : l.ready = true) (k memCycles : Nat) :
    wholeReady cw l k memCycles = false := by
  simp [wholeReady, hmio, hr]

end Timer

/-- Settles O31: the three cases of the timing unit in the cycle in one piece. -/
theorem latencyCounterAndReady : Obligations.LatencyCounterAndReady := by
  intro s t _ hrun h
  obtain rfl := step_next_eq_wholeNext hrun h
  rw [wholeNext_memCounter, wholeNext_cur, wholeLatches_ready]
  refine ⟨fun hmio => ?_, fun hmio hr => ?_, fun hmio hr => ?_⟩
  · exact ⟨wholeCounter_idle hmio _, wholeReady_idle hmio _ _⟩
  · rw [wholeCounter_counting hmio hr, wholeReady_counting hmio hr, beq_iff_eq]
    exact ⟨rfl, Iff.rfl⟩
  · exact ⟨wholeCounter_transfer hmio hr _, wholeReady_transfer hmio hr _ _⟩

/-! ### What a cycle does not load (R196) -/

/-- The rows of the latch commit own neither `READY` nor the fetched row (R196). -/
theorem exec_commit_keeps {i : Instr} {s t : State} (hi : slotOf i ∈ commitSlots) (h : exec i s = .next t) :
    t.nxt.ready = s.nxt.ready ∧ t.nxt.stateNumber = s.nxt.stateNumber ∧
      t.nxt.microinstruction = s.nxt.microinstruction := by
  cases i
  case ldPcReserved => exact nomatch h
  case ldMar | ldMdrBusWord | ldMdrBusByte | ldIr | ldBen | ldReg | ldCc | ldPcPlus2 | ldPcBus | ldPcAddrSum =>
    obtain rfl := Host.Outcome.next.inj h
    exact ⟨rfl, rfl, rfl⟩
  case irBenNzp =>
    obtain rfl := Host.Outcome.next.inj h
    split <;> exact ⟨rfl, rfl, rfl⟩
  case ldMdrMem =>
    obtain rfl := Host.Outcome.next.inj h
    split
    · split <;> exact ⟨rfl, rfl, rfl⟩
    · exact ⟨rfl, rfl, rfl⟩
  -- What is left are rows of the other units.
  all_goals exact absurd hi (by simp [slotOf, commitSlots])

@[simp] theorem wholeLatches_ir (s : State) : (wholeLatches s).ir =
    if cwLdIr s.cur.microinstruction then wholeBus s.cur.microinstruction s.cur else s.cur.ir := rfl
@[simp] theorem wholeLatches_ben (s : State) : (wholeLatches s).ben =
    if cwLdBen s.cur.microinstruction then s.cur.branchEnabled else s.cur.ben := rfl
@[simp] theorem wholeLatches_n (s : State) : (wholeLatches s).n = if cwLdCc s.cur.microinstruction then
    decide ((wholeBus s.cur.microinstruction s.cur).toInt < 0) else s.cur.n := rfl
@[simp] theorem wholeLatches_z (s : State) : (wholeLatches s).z = if cwLdCc s.cur.microinstruction then
    decide ((wholeBus s.cur.microinstruction s.cur).toInt = 0) else s.cur.z := rfl
@[simp] theorem wholeLatches_p (s : State) : (wholeLatches s).p = if cwLdCc s.cur.microinstruction then
    decide (0 < (wholeBus s.cur.microinstruction s.cur).toInt) else s.cur.p := rfl

/-- Settles O22: each load of the cycle in one piece is conditional on its enable. -/
theorem unloadedLatchesHold : Obligations.UnloadedLatchesHold := by
  refine ⟨fun i s t hi h => exec_commit_keeps hi h, fun s t hrun h => ?_⟩
  obtain rfl := step_next_eq_wholeNext hrun h
  refine ⟨fun hmar => ?_, fun hir => ?_, fun hmdr => ?_, fun hben => ?_, fun hreg => ?_, fun hpc => ?_, fun hcc => ?_,
    fun hmio => ?_⟩
  · simp [hmar]
  · simp [hir]
  · exact wholeMdr_hold s.mem (.inl hmdr)
  · simp [hben]
  · simp [hreg]
  · simp [wholePc, hpc]
  · simp [hcc]
  · exact wholeReady_idle hmio _ _

/-! ### The byte-store protocol (R184, R185, R253, R254) -/

/-- What the protocol rests on: the half of a byte-mode load that `MAR[0]` selects is the bus's low byte (R254). -/
theorem storeByte_byteBusData (mar bus : Word) : storeByte mar (byteBusData mar bus) = lowByte bus := by
  unfold storeByte byteBusData
  split
  · apply BitVec.eq_of_toNat_eq
    have hlt := (lowByte bus).isLt
    rw [toNat_highByte, duplicateLow, BitVec.toNat_append, ← Nat.shiftLeft_add_eq_or_of_lt hlt, Nat.shiftLeft_eq]
    omega
  · rfl

/-- A state `t` whose `MDR` the cycle from `s` loaded in byte mode, for a store at the `MAR` that both have. -/
structure ByteLoaded (s t : State) : Prop where
  mar : t.cur.mar = s.cur.mar
  mdr : t.cur.mdr = byteBusData s.cur.mar t.lastBus
  mem : t.mem = s.mem
  memCounter : t.memCounter = s.memCounter
  memCycles : t.memCycles = s.memCycles

/-- A cycle that loads `MDR` from the bus in byte mode and keeps `MAR` (R184, R185). -/
theorem byteLoaded_of_step {s t : State} (hrun : Running s) (h : step s = .next t)
    (hld : cwLdMdr s.cur.microinstruction = true) (hmio : cwMioEn s.cur.microinstruction = false)
    (hsize : cwDataSize s.cur.microinstruction = false) (hmar : cwLdMar s.cur.microinstruction = false) :
    ByteLoaded s t := by
  obtain rfl := step_next_eq_wholeNext hrun h
  have hmdr : wholeMdr s.cur.microinstruction s.cur s.mem =
      byteBusData s.cur.mar (wholeBus s.cur.microinstruction s.cur) := by
    simp [wholeMdr_bus s.mem hld hmio, hsize]
  exact
    { mar := by simp [hmar]
      mdr := hmdr
      mem := wholeMem_of_no_write _ (by simp [hmio])
      memCounter := wholeCounter_idle hmio _
      memCycles := rfl }

/-- The transfer of a byte write, where `MAR` and `MDR` are still those of the load, stores the bus's low byte at `MAR`
and nothing else (R126, R253). -/
theorem ByteLoaded.stores {s t v : State} (hload : ByteLoaded s t) (hwf : s.mem.wf = true)
    (hmar : v.cur.mar = t.cur.mar) (hmdr : v.cur.mdr = t.cur.mdr) (hmem : v.mem = t.mem)
    (hwrite : (cwMioEn v.cur.microinstruction && v.cur.ready && cwRW v.cur.microinstruction) = true)
    (hsize : cwDataSize v.cur.microinstruction = false) :
    ((wholeNext v).mem.read s.cur.mar.toNat).toNat = t.lastBus.toNat % 256 ∧
      ∀ a, a ≠ s.cur.mar.toNat → (wholeNext v).mem.read a = s.mem.read a := by
  have hstored : (wholeNext v).mem = memWriteByte s.mem s.cur.mar (lowByte t.lastBus) := by
    rw [wholeNext_mem, wholeMem_byte _ hwrite hsize, hmar, hmdr, hmem, hload.mar, hload.mdr, hload.mem,
      storeByte_byteBusData]
  obtain ⟨hsame, hother⟩ := byteWriteKeepsTheOtherByte s.mem s.cur.mar (lowByte t.lastBus) hwf
  rw [hstored, hsame]
  exact ⟨toNat_lowByte _, hother⟩

/-- A state that a wait row has waited in still waits by that row. -/
theorem HoldsItself.of_waitedFor {s t : State} {k : Nat}
    (hrow : HoldsItself s.cur.microinstruction s.cur.stateNumber) (hs : BoundaryInv s) (hwait : WaitedFor k s t) :
    HoldsItself t.cur.microinstruction t.cur.stateNumber := by
  rwa [hwait.microinstruction hs, hwait.stateNumber]

/-- A wait row without `LD_MDR` keeps `MDR` as long as it waits, by induction on the cycles gone (R196). -/
theorem HoldsItself.run_keeps_mdr {s : State} (hrow : HoldsItself s.cur.microinstruction s.cur.stateNumber)
    (hs : BoundaryInv s) (hrun : Running s) (hld : cwLdMdr s.cur.microinstruction = false) {k : Nat} {v : State}
    (hk : s.memCounter + k < s.memCycles) (hv : Sys2Proof.core.run k s = Host.Outcome.next v) :
    v.cur.mdr = s.cur.mdr := by
  induction k generalizing v with
  | zero =>
    obtain rfl : s = v := Host.Outcome.next.inj hv
    rfl
  | succ k ih =>
    obtain ⟨t, ht, hwait⟩ := hrow.run_waits hs hrun (k := k) (by omega)
    have hnext := run_snoc ht ((hrow.of_waitedFor hs hwait).step_eq hwait.running)
    obtain rfl : v = wholeNext t := Host.Outcome.next.inj (hv.symm.trans hnext)
    calc (wholeNext t).cur.mdr = t.cur.mdr := wholeMdr_hold t.mem (.inl (by rwa [hwait.microinstruction hs]))
      _ = s.cur.mdr := ih (by omega) ht

/-- Where the wait of a left-over or fresh access ends: `READY` is set for the transfer (R121, R131, R132). -/
theorem WaitedFor.ready {s v : State} {k : Nat} (hwait : WaitedFor k s v) (hk : s.memCounter + k = s.memCycles - 1) :
    v.cur.ready = true := by
  rw [hwait.inv.ready, hwait.memCounter, hwait.memCycles, beq_iff_eq, hk]

/-- Settles O35: the wait of the write row keeps `MAR`, `MDR` and memory, and its transfer stores the loaded byte. -/
theorem byteStoreProtocolStoresTheLowByte : Obligations.ByteStoreProtocolStoresTheLowByte := by
  constructor
  · intro s t hs hrun h hrunt hld hmio hsize hmar hird hcond hj _ hmiot hrwt hsizet hmart hldt hpct
    have hload := byteLoaded_of_step hrun h hld hmio hsize hmar
    have ht := everyStepKeepsTheBoundaryInvariant s t hs h
    have hrow : HoldsItself t.cur.microinstruction t.cur.stateNumber := ⟨hird, hcond, hj, hmiot, hpct⟩
    have hcounter := hload.memCounter
    have hcycles := hload.memCycles
    refine ⟨fun k hk => ?_, ?_⟩
    · obtain ⟨v, hv, hwait⟩ := hrow.run_waits ht hrunt (k := k) (by omega)
      exact ⟨v, hv, hwait.stateNumber, hwait.mem.trans hload.mem⟩
    · have hlat := hs.latency
      have hrange := hs.counter
      have hlast : t.memCounter + (s.memCycles - s.memCounter - 1) < t.memCycles := by omega
      obtain ⟨v, hv, hwait⟩ := hrow.run_waits ht hrunt hlast
      have hcw := hwait.microinstruction ht
      have hrowv := hrow.of_waitedFor ht hwait
      have hr : v.cur.ready = true := hwait.ready (by omega)
      have hend := run_snoc hv (hrowv.step_eq hwait.running)
      rw [Nat.sub_add_cancel (by omega)] at hend
      obtain ⟨hnext, hzero, hclear⟩ := hrowv.exits hr
      exact ⟨wholeNext v, hend, hwait.stateNumber ▸ hnext, hzero, hclear,
        hload.stores hs.memory (hwait.mar hmart) (hrow.run_keeps_mdr ht hrunt hldt hlast hv) hwait.mem
          (by simp [hcw, hmiot, hr, hrwt]) (by rwa [hcw])⟩
  · intro s t u hwf hrun h hrunt hu hld hmio hsize hmar hmiot hrwt hsizet hr
    obtain rfl := step_next_eq_wholeNext hrunt hu
    exact (byteLoaded_of_step hrun h hld hmio hsize hmar).stores hwf rfl rfl rfl (by simp [hmiot, hr, hrwt]) hsizet

end Sys2Proof.Machine
end

section
/-! SUPPORT. The values of the bus-driver evaluator as numbers: the statements of 42_bus_drivers.md. -/

namespace Sys2Proof.Machine

/-! ### Signed fields of a word (R9, R75) -/

/-- The low `n + 1` bits of a word as a signed number: below `2 ^ n` they count as they stand. Every offset of R75 and
the low byte of R141 are instances. -/
theorem toInt_signExtend_low {n : Nat} (hn : n < 16) (v : Word) :
    ((v.extractLsb' 0 (n + 1)).signExtend 16).toInt = if v.toNat % 2 ^ (n + 1) < 2 ^ n
      then ((v.toNat % 2 ^ (n + 1) : Nat) : Int) else ((v.toNat % 2 ^ (n + 1) : Nat) : Int) - (2 ^ (n + 1) : Nat) := by
  have hlow : (v.extractLsb' 0 (n + 1)).toNat = v.toNat % 2 ^ (n + 1) := by
    rw [BitVec.extractLsb'_toNat, Nat.shiftRight_zero]
  have htop : 2 * (v.toNat % 2 ^ (n + 1)) < 2 ^ (n + 1) ↔ v.toNat % 2 ^ (n + 1) < 2 ^ n := by
    rw [Nat.pow_succ']
    omega
  rw [BitVec.toInt_signExtend_of_le hn, BitVec.toInt_eq_toNat_cond, hlow]
  simp only [htop]

theorem toInt_off6Value (ir : Word) : (off6Value ir).toInt =
    if ir.toNat % 64 < 32 then (ir.toNat % 64 : Int) else (ir.toNat % 64 : Int) - 64 :=
  toInt_signExtend_low (n := 5) (by decide) ir

theorem toInt_off9Value (ir : Word) : (off9Value ir).toInt =
    if ir.toNat % 512 < 256 then (ir.toNat % 512 : Int) else (ir.toNat % 512 : Int) - 512 :=
  toInt_signExtend_low (n := 8) (by decide) ir

theorem toInt_off11Value (ir : Word) : (off11Value ir).toInt =
    if ir.toNat % 2048 < 1024 then (ir.toNat % 2048 : Int) else (ir.toNat % 2048 : Int) - 2048 :=
  toInt_signExtend_low (n := 10) (by decide) ir

/-- An immediate keeps its signed value (R75, R150). -/
theorem toInt_imm5Value (imm : BitVec 5) : (imm5Value imm).toInt = imm.toInt :=
  BitVec.toInt_signExtend_of_le (by decide)

/-! ### The address adder and the `MAR` mux (R142 to R146) -/

/-- `LSHF1` doubles, and bit 15 is lost (R144). -/
theorem toNat_shiftAddr2 (a2 : Word) : (shiftAddr2 a2).toNat = a2.toNat * 2 % 65536 := by
  rw [shiftAddr2, BitVec.toNat_shiftLeft, Nat.shiftLeft_eq, Nat.pow_one]

/-- The trap vector's address is twice the low byte, without a wrap (R146). -/
theorem toNat_trapvectValue (ir : Word) : (trapvectValue ir).toNat = 2 * (ir.toNat % 256) := by
  have hbyte : (irLow8 ir).toNat = ir.toNat % 256 := toNat_lowByte ir
  rw [trapvectValue, BitVec.toNat_shiftLeft, BitVec.toNat_setWidth, hbyte, Nat.shiftLeft_eq]
  omega

/-- Settles O44: each row drives its net from the state, and the offsets and the shift have the values of R75, R144. -/
theorem addressInputRows : Obligations.AddressInputRows := fun s =>
  ⟨rfl, rfl, rfl, ⟨off6Value s.cur.ir, rfl, toInt_off6Value _⟩, ⟨off9Value s.cur.ir, rfl, toInt_off9Value _⟩,
    ⟨off11Value s.cur.ir, rfl, toInt_off11Value _⟩, ⟨shiftAddr2 s.nets.addr2Out, rfl, toNat_shiftAddr2 _⟩⟩

/-- Settles O45. -/
theorem marmuxRows : Obligations.MarmuxRows := fun s =>
  ⟨⟨trapvectValue s.cur.ir, rfl, toNat_trapvectValue _⟩, ⟨s.nets.addrSum, rfl, BitVec.toNat_add _ _⟩⟩

/-! ### The ALU (R150 to R154) -/

/-- Settles O46: the immediate keeps its value, and the operations are those of `BitVec`. -/
theorem aluRows : Obligations.AluRows := fun s _ imm =>
  ⟨rfl, ⟨imm5Value imm, rfl, toInt_imm5Value imm⟩,
    ⟨s.nets.sr1Val + s.nets.sr2Out, rfl, BitVec.toNat_add _ _⟩,
    ⟨s.nets.sr1Val &&& s.nets.sr2Out, rfl, fun _ => BitVec.getLsbD_and⟩,
    ⟨s.nets.sr1Val ^^^ s.nets.sr2Out, rfl, fun _ => BitVec.getLsbD_xor⟩, rfl⟩

/-! ### The shifter (R156 to R158) -/

theorem toNat_shiftLeft (v : Word) (a : BitVec 4) : (shiftLeft v a).toNat = v.toNat * 2 ^ a.toNat % 65536 := by
  rw [shiftLeft, BitVec.toNat_shiftLeft, Nat.shiftLeft_eq]

theorem toNat_shiftRightLogical (v : Word) (a : BitVec 4) :
    (shiftRightLogical v a).toNat = v.toNat / 2 ^ a.toNat := by
  rw [shiftRightLogical, BitVec.toNat_ushiftRight, Nat.shiftRight_eq_div_pow]

/-- The copies of the sign make it a division of the signed value, rounded down (R158). -/
theorem toInt_shiftRightArith (v : Word) (a : BitVec 4) :
    (shiftRightArith v a).toInt = v.toInt / 2 ^ a.toNat := by
  rw [shiftRightArith, BitVec.toInt_sshiftRight, Int.shiftRight_eq_div_pow, Nat.cast_pow, Nat.cast_ofNat]

/-- Settles O47. -/
theorem shifterRows : Obligations.ShifterRows := fun s a =>
  ⟨⟨shiftLeft s.nets.sr1Val a, rfl, toNat_shiftLeft _ a⟩,
    ⟨shiftRightLogical s.nets.sr1Val a, rfl, toNat_shiftRightLogical _ a⟩,
    ⟨shiftRightArith s.nets.sr1Val a, rfl, toInt_shiftRightArith _ a⟩⟩

/-! ### The memory-data candidate (R140, R141) -/

/-- The low byte as a signed number. -/
theorem toInt_sext8_lowByte (v : Word) : (sext8 (lowByte v)).toInt =
    if v.toNat % 256 < 128 then (v.toNat % 256 : Int) else (v.toNat % 256 : Int) - 256 :=
  toInt_signExtend_low (n := 7) (by decide) v

/-- The high byte holds the word's sign, so as a signed number it is the word's, divided and rounded down. -/
theorem toInt_sext8_highByte (v : Word) : (sext8 (highByte v)).toInt = v.toInt / 256 := by
  have hlt : v.toNat < 65536 := v.isLt
  rw [sext8, BitVec.toInt_signExtend_of_le (by decide), BitVec.toInt_eq_toNat_cond, BitVec.toInt_eq_toNat_cond,
    toNat_highByte]
  omega

/-- The byte candidate by the parity of `MAR` (R141). -/
theorem toInt_byteCandidate (mar mdr : Word) : (byteCandidate mar mdr).toInt =
    if mar.toNat % 2 = 1 then mdr.toInt / 256
    else if mdr.toNat % 256 < 128 then (mdr.toNat % 256 : Int) else (mdr.toNat % 256 : Int) - 256 := by
  have hodd : mar.getLsbD 0 = true ↔ mar.toNat % 2 = 1 := by
    rw [BitVec.getLsbD, Nat.testBit_zero, decide_eq_true_iff]
  rw [byteCandidate]
  split
  case isTrue h => rw [if_pos (hodd.1 h), toInt_sext8_highByte]
  case isFalse h => rw [if_neg (mt hodd.2 h), toInt_sext8_lowByte]

/-- Settles O48. -/
theorem candidateAndDestinationRows : Obligations.CandidateAndDestinationRows := fun s =>
  ⟨rfl, ⟨byteCandidate s.cur.mar s.cur.mdr, rfl, toInt_byteCandidate _ _⟩,
    ⟨irRegA s.cur.ir, rfl, toNat_irRegA _⟩, rfl⟩

end Sys2Proof.Machine
end

section
/-! SUPPORT. The bus arbiter row by row and through a cycle: the statements of 43_bus_arbiter.md. -/

namespace Sys2Proof.Machine

/-! ### The rows of the arbiter (R170, R171): each drives the bus once -/

theorem exec_gateMarmux (s : State) : exec .gateMarmux s = .next (driveBus s.nets.marmuxOut s) := rfl
theorem exec_gatePc (s : State) : exec .gatePc s = .next (driveBus s.cur.pc s) := rfl
theorem exec_gateAlu (s : State) : exec .gateAlu s = .next (driveBus s.nets.aluOut s) := rfl
theorem exec_gateShf (s : State) : exec .gateShf s = .next (driveBus s.nets.shfOut s) := rfl
theorem exec_gateMdr (s : State) : exec .gateMdr s = .next (driveBus s.nets.mdrCand s) := rfl
theorem exec_busNone (s : State) : exec .busNone s = .next (driveBus 0#16 s) := rfl

/-- Settles O49: the rows are instances of `driveBus`, which writes the net of the bus alone. -/
theorem arbiterRows : Obligations.ArbiterRows := fun s =>
  ⟨exec_gateMarmux s, exec_gatePc s, exec_gateAlu s, exec_gateShf s, exec_gateMdr s, exec_busNone s⟩

/-! ### The priority among the gates (R170)

A gate takes the bus where every gate before it is 0; the gates after it are free. -/

section Priority
variable {cw : ControlWord} (l : Latches)

theorem wholeBus_marmux (hmarmux : cwGateMarmux cw = true) : wholeBus cw l = wholeMarmux cw l := by
  simp [wholeBus, hmarmux]

theorem wholeBus_pc (hmarmux : cwGateMarmux cw = false) (hpc : cwGatePc cw = true) : wholeBus cw l = l.pc := by
  simp [wholeBus, hmarmux, hpc]

theorem wholeBus_alu (hmarmux : cwGateMarmux cw = false) (hpc : cwGatePc cw = false) (halu : cwGateAlu cw = true) :
    wholeBus cw l = wholeAlu cw l := by
  simp [wholeBus, hmarmux, hpc, halu]

theorem wholeBus_shf (hmarmux : cwGateMarmux cw = false) (hpc : cwGatePc cw = false) (halu : cwGateAlu cw = false)
    (hshf : cwGateShf cw = true) : wholeBus cw l = wholeShf cw l := by
  simp [wholeBus, hmarmux, hpc, halu, hshf]

theorem wholeBus_mdr (hmarmux : cwGateMarmux cw = false) (hpc : cwGatePc cw = false) (halu : cwGateAlu cw = false)
    (hshf : cwGateShf cw = false) (hmdr : cwGateMdr cw = true) : wholeBus cw l = wholeMdrCand cw l := by
  simp [wholeBus, hmarmux, hpc, halu, hshf, hmdr]

/-- With no gate the bus is 0 (R171). -/
theorem wholeBus_none (hmarmux : cwGateMarmux cw = false) (hpc : cwGatePc cw = false) (halu : cwGateAlu cw = false)
    (hshf : cwGateShf cw = false) (hmdr : cwGateMdr cw = false) : wholeBus cw l = 0#16 := by
  simp [wholeBus, hmarmux, hpc, halu, hshf, hmdr]

end Priority

@[simp] theorem wholeNext_lastBus (s : State) :
    (wholeNext s).lastBus = wholeBus s.cur.microinstruction s.cur := rfl

/-- Settles O24: the step is the cycle in one piece, which records the arbiter's choice. -/
theorem busPriority : Obligations.BusPriority := by
  intro s t hrun h
  obtain rfl := step_next_eq_wholeNext hrun h
  rw [wholeNext_lastBus]
  exact ⟨wholeBus_marmux s.cur, wholeBus_pc s.cur, wholeBus_alu s.cur, wholeBus_shf s.cur, wholeBus_mdr s.cur,
    wholeBus_none s.cur, wholeNext_cycleCount s⟩

end Sys2Proof.Machine
end

section
/-! SUPPORT. The latch commit row by row and through a cycle, and the step as the run of its decoded rows: the
statements of 44_latch_commit.md. -/

namespace Sys2Proof.Machine

/-! ### A step runs the decoded rows (R199, R200, R213) -/

/-- A cycle whose rows complete ends in the swap (R200). -/
theorem runCycle_of_next {s t : State} (h : runOps (microOps s.controlWord s.cur.ir) s.beginCycle = .next t) :
    runCycle s = .next t.swap := by
  rw [runCycle, h]

/-- A cycle with a row that faults ends in that fault, without the swap (R213). -/
theorem runCycle_of_fault {s : State} {f : Fault}
    (h : runOps (microOps s.controlWord s.cur.ir) s.beginCycle = .fault f) : runCycle s = .fault f := by
  rw [runCycle, h]

/-- A word of the control word's width is placed in the control store (log 4). -/
theorem withFetchWord_controlWord (s : State) (w : Nat) :
    s.withFetchWord 40 w = s.placeControlWord (BitVec.ofNat 35 w) := rfl

/-- The row of the current state number is the word placed there (log 4). -/
theorem controlRow_placeControlWord (s : State) (cw : ControlWord) :
    controlRow (s.placeControlWord cw).controlStore s.cur.stateNumber = cw := by
  simp [controlRow]

/-- Settles O6: a running machine steps by its cycle, and a placed word moves neither `PC` nor `halted`. -/
theorem stepRunsTheDecodedMicroOps : Obligations.StepRunsTheDecodedMicroOps := by
  refine ⟨fun s hrun => ?_, fun s w _ => ?_⟩
  · rw [step_running hrun.1 hrun.2]
    exact ⟨fun _ => runCycle_of_next, fun _ => runCycle_of_fault⟩
  · rw [withFetchWord_controlWord]
    exact ⟨rfl, controlRow_placeControlWord s _, rfl, rfl, id⟩

/-! ### The values that the rows load, as numbers -/

/-- `PC + 2`, modulo 2^16 (R191). -/
theorem toNat_pcPlus2 (pc : Word) : (pcPlus2 pc).toNat = (pc.toNat + 2) % 65536 := BitVec.toNat_add pc 2#16

/-- The address sum, modulo 2^16 (R145, R193). -/
theorem Nets.toNat_addrSum (w : Nets) : w.addrSum.toNat = (w.addr1Out.toNat + w.addr2Out.toNat) % 65536 :=
  BitVec.toNat_add _ _

/-- The same byte in both halves (R184). -/
theorem toNat_duplicateLow (bus : Word) : (duplicateLow bus).toNat = bus.toNat % 256 * 257 := by
  rw [duplicateLow, BitVec.toNat_append, ← Nat.shiftLeft_add_eq_or_of_lt (lowByte bus).isLt, Nat.shiftLeft_eq,
    toNat_lowByte]
  omega

/-- What byte mode loads into `MDR`, by `MAR[0]` (R184, R185). -/
theorem toNat_byteBusData (mar bus : Word) :
    (byteBusData mar bus).toNat = if mar.getLsbD 0 then bus.toNat % 256 * 257 else bus.toNat := by
  rw [byteBusData, apply_ite BitVec.toNat, toNat_duplicateLow]

/-- `MAR[0]` is set at the odd addresses. -/
theorem getLsbD_zero_iff_odd (a : Word) : a.getLsbD 0 = true ↔ a.toNat % 2 = 1 := by
  rw [BitVec.getLsbD, Nat.testBit_zero, decide_eq_true_iff]

/-- A register after a write: the value written, or what it held (R189). -/
theorem regRead_regWrite (regs : Vector Word 8) (i k : RegIdx) (v : Word) :
    regRead (regWrite regs i v) k = if k = i then v else regRead regs k := by
  split
  case isTrue h => rw [h, regRead_regWrite_same]
  case isFalse h => exact regRead_regWrite_other regs i k v h

/-- One flag set is a count of 1 (R42). -/
theorem count_of_oneFlag {n z p : Bool}
    (h : (n, z, p) ∈ [(true, false, false), (false, true, false), (false, false, true)]) :
    n.toNat + z.toNat + p.toNat = 1 := by
  revert n z p
  decide

/-! ### The rows of the latch commit (R180 to R195) -/

theorem exec_ldReg (s : State) : exec .ldReg s =
    .next (s.withNxt { s.nxt with regs := regWrite s.nxt.regs s.nets.drIdx s.nets.bus }) := rfl
theorem exec_ldPcPlus2 (s : State) : exec .ldPcPlus2 s = .next (stagePc (pcPlus2 s.cur.pc) s) := rfl
theorem exec_ldPcAddrSum (s : State) : exec .ldPcAddrSum s = .next (stagePc s.nets.addrSum s) := rfl
theorem exec_ldMdrBusByte (s : State) :
    exec .ldMdrBusByte s = .next (stageMdr (byteBusData s.cur.mar s.nets.bus) s) := rfl
theorem exec_ldBen (s : State) : exec .ldBen s = .next (stageBen s.cur.branchEnabled s) := rfl
theorem exec_ldCc (s : State) : exec .ldCc s = .next (s.withNxt { s.nxt with
    n := flagN s.nets.bus, z := flagZ s.nets.bus, p := flagP s.nets.bus }) := rfl

/-- The row of a load from memory stages `MDR` alone: the read result, or in a wait cycle what was staged (log 12). -/
theorem exec_ldMdrMem_stages (s : State) : ∃ v : Word, exec .ldMdrMem s = .next (stageMdr v s) := by
  simp only [exec, execLdMdrMem]
  split
  · split
    · exact ⟨_, rfl⟩
    · exact ⟨s.nxt.mdr, rfl⟩
  · exact ⟨s.nxt.mdr, rfl⟩

/-- Settles O50: each row stages one latch, with the value of R180 to R193. -/
theorem loadRows : Obligations.LoadRows := fun s =>
  ⟨rfl, rfl, ⟨_, exec_ldReg s, fun k => regRead_regWrite s.nxt.regs s.nets.drIdx k s.nets.bus⟩,
    ⟨_, exec_ldPcPlus2 s, toNat_pcPlus2 s.cur.pc⟩, rfl, ⟨_, exec_ldPcAddrSum s, s.nets.toNat_addrSum⟩⟩

/-- Settles O51: what the row of a completed read stages is the read result. -/
theorem mdrLoadRows : Obligations.MdrLoadRows := by
  intro s
  obtain ⟨v, hv⟩ := exec_ldMdrMem_stages s
  refine ⟨⟨v, hv, fun w hdone hrw hdata => exec_ldMdrMem_mdr hrw ⟨hdone, hdata⟩ hv⟩, rfl,
    ⟨_, exec_ldMdrBusByte s, ?_⟩⟩
  simp only [toNat_byteBusData, getLsbD_zero_iff_odd]

/-- Settles O52: the flags are those of the sign of the bus, and a sign is one of three. -/
theorem flagRows : Obligations.FlagRows := by
  intro s
  obtain ⟨hn, hz, hp⟩ := flags_eq_sign s.nets.bus
  exact ⟨exec_ldBen s, _, _, _, exec_ldCc s, by rw [hn, decide_eq_true_iff], by rw [hz, decide_eq_true_iff],
    by rw [hp, decide_eq_true_iff], count_of_oneFlag (oneFlag_of_bus s.nets.bus)⟩

/-! ### What a cycle loads -/

section PcSource
variable {cw : ControlWord} (l : Latches)

/-- `PCMUX = 00` takes `PC + 2` (R191). -/
theorem wholePc_plus2 (hld : cwLdPc cw = true) (hmux : cwPcmux cw = 0#2) : wholePc cw l = pcPlus2 l.pc := by
  simp [wholePc, hld, hmux, pcPlus2]

/-- `PCMUX = 01` takes the bus as it is (R192). -/
theorem wholePc_bus (hld : cwLdPc cw = true) (hmux : cwPcmux cw = 1#2) : wholePc cw l = wholeBus cw l := by
  simp [wholePc, hld, hmux]

/-- `PCMUX = 10` takes the address sum as it is (R193). -/
theorem wholePc_addrSum (hld : cwLdPc cw = true) (hmux : cwPcmux cw = 2#2) : wholePc cw l = wholeAddrSum cw l := by
  simp [wholePc, hld, hmux]

end PcSource

/-- Settles O23: the loads of the cycle in one piece take the bus that it records. -/
theorem loadEnablesTakeTheBus : Obligations.LoadEnablesTakeTheBus := by
  intro s t hrun h
  obtain rfl := step_next_eq_wholeNext hrun h
  rw [wholeNext_lastBus, wholeNext_cur]
  refine ⟨fun hmar => ?_, fun hir => ?_, fun hreg k => ?_, fun hcc => ?_⟩
  · rw [wholeLatches_mar, if_pos hmar]
  · rw [wholeLatches_ir, if_pos hir]
  · rw [wholeLatches_regs, if_pos hreg]
    exact regRead_regWrite ..
  · simp [hcc]

/-- Settles O25. -/
theorem pcSources : Obligations.PcSources := by
  intro s t hrun h hld
  obtain rfl := step_next_eq_wholeNext hrun h
  rw [wholeNext_lastBus, wholeNext_cur, wholeLatches_pc]
  refine ⟨fun hmux => ?_, wholePc_bus s.cur hld, fun hmux => ?_⟩
  · rw [wholePc_plus2 s.cur hld hmux, toNat_pcPlus2]
  · rw [wholePc_addrSum s.cur hld hmux]
    exact BitVec.toNat_add _ _

/-- Settles O14: `PC` wraps to 0, where the halt test stops the machine that is still running (R248). -/
theorem pcWrapAroundHalts : Obligations.PcWrapAroundHalts := by
  intro s t hrun hld hmux hpc h
  obtain rfl := step_next_eq_wholeNext hrun h
  have hzero : (wholeNext s).cur.pc = 0#16 := by
    rw [wholeNext_cur, wholeLatches_pc, wholePc_plus2 s.cur hld hmux, hpc]
    rfl
  exact ⟨hzero, step_at_zero hrun.1 hzero⟩

/-- Settles O34: with `MIO_EN = 0` the source is the bus, and byte mode differs from it at an odd `MAR` only. -/
theorem mdrFromTheBus : Obligations.MdrFromTheBus := by
  intro s t hrun h hld hmio
  obtain rfl := step_next_eq_wholeNext hrun h
  rw [wholeNext_lastBus, wholeNext_cur, wholeLatches_mdr, wholeMdr_bus s.mem hld hmio]
  cases cwDataSize s.cur.microinstruction with
  | true => simp
  | false => simp [toNat_byteBusData]

end Sys2Proof.Machine
end

section
/-! SUPPORT. The host's calls: how `step(n)` ends, by induction on its rounds, and which bytes a memory dump reports.
The statements of 60_exceptions.md. -/

namespace Sys2Proof.Machine

/-! ### How a host call ends (R227, R231) -/

/-- What R231 lets a call of `n` rounds from `s` end in; the case `notEnded` as log 27 reads it. -/
def RunEnd.EndsCall (n : Nat) (s : State) (e : RunEnd) : Prop :=
  match e with
  | .notEnded t => t.cycleCount = s.cycleCount + n ∧ t.halted = false ∧ Sys2Proof.core.run n s = Host.Outcome.next t
  | .halted t => t.cycleCount < s.cycleCount + n ∧ t.cur.pc = 0#16 ∧ t.halted = true
  | .faulted f => ∃ cw k left, f = .illFormedControlWord cw k left ∧ cwIllFormed cw = true
  | .refused _ => False

/-- A call on a machine that has not halted is the loop (R227). -/
theorem hostStep_eq_runLoop {n : Nat} {s : State} (hh : s.halted = false) : hostStep n s = runLoop n s := by
  simp [hostStep, hh]

/-- A completed cycle before a call of `n` rounds makes it a call of `n + 1`: the cycle count rises by one, and the
run by one step. -/
theorem RunEnd.EndsCall.of_cycle {n : Nat} {s : State} {e : RunEnd} (hstep : step s = .next (wholeNext s))
    (h : e.EndsCall n (wholeNext s)) : e.EndsCall (n + 1) s := by
  have hcount : (wholeNext s).cycleCount + n = s.cycleCount + (n + 1) := by
    rw [wholeNext_cycleCount]
    omega
  cases e with
  | notEnded t =>
    obtain ⟨hcycles, hh, hrun⟩ := h
    exact ⟨hcycles.trans hcount, hh, (run_succ_next hstep).trans hrun⟩
  | halted t =>
    obtain ⟨hcycles, hpc, hh⟩ := h
    exact ⟨hcount ▸ hcycles, hpc, hh⟩
  | faulted f => exact h
  | refused r => exact h

/-- The loop ends as R231 has it: a round is the halt test, a completed cycle, or the fault of an ill-formed word. -/
theorem runLoop_endsCall (n : Nat) {s : State} (hh : s.halted = false) : (runLoop n s).EndsCall n s := by
  induction n generalizing s with
  | zero => exact ⟨rfl, hh, run_zero s⟩
  | succ n ih =>
    by_cases hp : s.cur.pc = 0#16
    · rw [runLoop_halts n hp]
      exact ⟨Nat.lt_add_of_pos_right n.succ_pos, hp, rfl⟩
    · cases hcw : cwIllFormed s.cur.microinstruction with
      | false =>
        have hcycle : runCycle s = .next (wholeNext s) := runCycle_of_wellFormed hcw
        rw [runLoop_next n hp hcycle]
        exact (ih (s := wholeNext s) hh).of_cycle ((step_running hh hp).trans hcycle)
      | true =>
        rw [runLoop_fault n hp ((runCycle_eq_wholeCycle s).trans (wholeCycle_of_illFormed hcw))]
        exact ⟨_, _, _, rfl, hcw⟩

/-- Settles O13. -/
theorem hostCallEndsOneOfThreeWays : Obligations.HostCallEndsOneOfThreeWays := by
  intro n s hh
  have hend : (hostStep n s).EndsCall n s := (hostStep_eq_runLoop hh).symm ▸ runLoop_endsCall n hh
  refine ⟨fun t h => ?_, fun t h => ?_, fun f h => ?_, fun r h => ?_⟩ <;> rw [h] at hend <;> exact hend

/-! ### The memory dump (R229) -/

/-- What the dump of a range in order and inside the address space reports. -/
theorem dumpMemoryRange_of_range (s : State) {lo hi : Nat} (hle : lo ≤ hi) (hhi : hi < Config.addressCount) :
    dumpMemoryRange s lo hi = some ((List.range (hi - lo + 1)).map fun k => s.mem.read (lo + k)) :=
  if_pos ⟨hle, hhi⟩

/-- The dump of any other range is refused (log 22). -/
theorem dumpMemoryRange_refused (s : State) {lo hi : Nat} (h : hi < lo ∨ Config.addressCount ≤ hi) :
    dumpMemoryRange s lo hi = none :=
  if_neg fun ⟨hle, hhi⟩ => h.elim (Nat.not_lt_of_le hle) (Nat.not_le_of_lt hhi)

/-- Settles O54: byte `k` of the dump is the image of the index `k`. -/
theorem memoryDumpReportsTheClosedRange : Obligations.MemoryDumpReportsTheClosedRange := by
  intro s lo hi
  refine ⟨fun hle hhi => ⟨_, dumpMemoryRange_of_range s hle (Nat.lt_succ_of_le hhi), by simp, fun k hk => ?_⟩,
    dumpMemoryRange_refused s⟩
  have hidx : k < hi - lo + 1 := by omega
  rw [List.getElem?_map, List.getElem?_range hidx, Option.map_some]

end Sys2Proof.Machine
end

section
/-! SUPPORT. Which images load, and the halt test before a cycle: the statements of 70_reset_and_hazards.md. -/

namespace Sys2Proof.Machine

/-! ### The size test of the image load (R242, R246) -/

/-- The load address is the base with bit 0 dropped (R242): both halve alike, and the load address is even. -/
theorem toNat_loadAddress (base : Word) : (loadAddress base).toNat = base.toNat / 2 * 2 := by
  have heven : (loadAddress base).toNat % 2 = 0 := loadAddress_even base
  have hhalf : (loadAddress base).toNat / 2 = base.toNat / 2 :=
    calc (base.toNat &&& 65534) / 2
      _ = base.toNat / 2 &&& 2 ^ 15 - 1 := Nat.and_div_two
      _ = base.toNat / 2 % 2 ^ 15 := Nat.and_two_pow_sub_one_eq_mod _ 15
      _ = base.toNat / 2 := by omega
  omega

/-- An image whose last word would pass the top of memory is refused (R246). -/
theorem loadImage_tooLarge {base : Word} {ws : List Word} (h : 0x10000 < (loadAddress base).toNat + 2 * ws.length) :
    loadImage (base :: ws) = .error .programTooLarge :=
  if_pos h

/-- An image that fits is stored from its load address on (R245, R246). -/
theorem loadImage_fits {base : Word} {ws : List Word} (h : (loadAddress base).toNat + 2 * ws.length ≤ 0x10000) :
    loadImage (base :: ws) = .ok (base, storeImage (loadAddress base).toNat ws []) :=
  if_neg (Nat.not_lt_of_le h)

/-- Settles O11: the statement's bound is the test on the load address, and the stored image is canonical. -/
theorem imageSizeTest : Obligations.ImageSizeTest := by
  refine ⟨rfl, fun base ws => ?_⟩
  rw [← toNat_loadAddress base]
  exact ⟨loadImage_tooLarge, fun hfit => ⟨_, loadImage_fits hfit, storeImage_wf _ ws [] rfl⟩⟩

/-! ### The halt test (R227, R228, R248) -/

/-- A call of `step(n)` on a halted machine is refused (R227). -/
theorem hostStep_of_halted (n : Nat) {s : State} (hh : s.halted = true) : hostStep n s = .refused .alreadyHalted :=
  if_pos hh

/-- `runToHalt` is the loop of `step(n)` under fuel, with the same refusal of a halted machine (R228). -/
theorem runToHalt_eq_hostStep (fuel : Nat) (s : State) : runToHalt fuel s = hostStep fuel s := rfl

/-- A call of at least one round at `PC = 0` is the halt test alone (R248). -/
theorem hostStep_at_zero (k : Nat) {s : State} (hh : s.halted = false) (hp : s.cur.pc = 0#16) :
    hostStep (k + 1) s = .halted s.halt :=
  (hostStep_eq_runLoop hh).trans (runLoop_halts k hp)

/-- Settles O12: at `PC = 0` each call is the halt test alone, and on a halted machine each is refused. -/
theorem haltTestRunsNoFurtherCycle : Obligations.HaltTestRunsNoFurtherCycle := by
  intro s k
  rw [runToHalt_eq_hostStep, runToHalt_eq_hostStep]
  constructor
  case left =>
    intro hrun hp
    have hhost := hostStep_at_zero k hrun hp
    exact ⟨step_at_zero hrun hp, hhost, hhost⟩
  case right =>
    intro hhalted
    have hhost := hostStep_of_halted k hhalted
    exact ⟨step_of_halted hhalted, hhost, hhost⟩

end Sys2Proof.Machine
end
